-- ==== Sys2Proof/Syntax.lean ====
section
/-! DEFINITION. The instructions of the block, one constructor per row of opcode_table.json, each operand with the
width of its field (30_encoding.md R82, R87, R89). -/

namespace Sys2Proof

/-- The two axes: RA is ADDR[7] = 0, DC is ADDR[7] = 1 (00_scope.md R6, 30_encoding.md R82). -/
inductive Axis where
  | ra
  | dc
  deriving DecidableEq, Repr

/-- The axis that bit ADDR[7] names (R82). -/
def Axis.ofBit : Bool → Axis
  | false => .ra
  | true => .dc

/-- Bit ADDR[7] of an axis (R82). -/
def Axis.bit : Axis → Bool
  | .ra => false
  | .dc => true

/-- The axis that is not this one. -/
def Axis.other : Axis → Axis
  | .ra => .dc
  | .dc => .ra

/-- The decoded instructions. The axis is ADDR[7] throughout. Bits that the spec says are ignored (R65, R83) are no
operand; the reserved bits of CMD and TICK are zero in every instruction (R84, R87). -/
inductive Instr where
  /-- RD (R180): read the register at `offset`. -/
  | rd (axis : Axis) (offset : BitVec 7)
  /-- TICK (R131): one timer capture event. -/
  | tick (axis : Axis)
  /-- ENABLE (R151). -/
  | enable (axis : Axis)
  /-- DISABLE (R152). -/
  | disable (axis : Axis)
  /-- CONFIGURE (R153). -/
  | configure (axis : Axis)
  /-- SLEW (R156). -/
  | slew (axis : Axis)
  /-- GOTO (R157). -/
  | goto (axis : Axis)
  /-- START (R155). -/
  | start (axis : Axis)
  /-- STOP (R159). -/
  | stop (axis : Axis)
  /-- ESTOP (R160). -/
  | estop (axis : Axis)
  /-- RETARGET (R161): the new period is DATA[31:16]. -/
  | retarget (axis : Axis) (v : BitVec 16)
  /-- WR.JVAL (R182): DATA[23:0]. -/
  | wrJval (axis : Axis) (v : BitVec 24)
  /-- WR.TARGET (R183): DATA[15:0]. -/
  | wrTarget (axis : Axis) (v : BitVec 16)
  /-- WR.HVAL (R184): DATA[23:0]. -/
  | wrHval (axis : Axis) (v : BitVec 24)
  /-- WR.MODE (R185): `GVal` DATA[3:0], `dir` DATA[4], `gotoEn` DATA[5]. -/
  | wrMode (axis : Axis) (g : BitVec 4) (d : Bool) (e : Bool)
  /-- WR.GOTOSPEED (R186): DATA[7:0]. -/
  | wrGotospeed (axis : Axis) (v : BitVec 8)
  /-- WR.SIDEREAL (R187): DATA[15:0]. -/
  | wrSidereal (axis : Axis) (v : BitVec 16)
  /-- WR.BVAL (R100): DATA[23:0]. -/
  | wrBval (axis : Axis) (b : BitVec 24)
  /-- WR.AXCFG (R188): DATA[0]. -/
  | wrAxcfg (axis : Axis) (r : Bool)
  /-- WR.ACCEL (R111): the index ADDR[2:0], `speed` DATA[15:0], `repeats` DATA[23:16]. -/
  | wrAccel (axis : Axis) (index : Nat) (speed : BitVec 16) (repeats : BitVec 8)
  /-- WR.GCFG (R189): `microsteps` DATA[7:0], `driverFamily` DATA[11:8], `allowHighSpeed` DATA[12], `allowAdvancedHC`
  DATA[13]; the axis is the alias 0x70 or 0xF0, whose `err` the write sets. -/
  | wrGcfg (axis : Axis) (m : BitVec 8) (f : BitVec 4) (h : Bool) (a : Bool)
  deriving DecidableEq, Repr

/-- The axis ADDR[7] of an instruction (R82). -/
def Instr.axis : Instr → Axis
  | .rd ax _ => ax
  | .tick ax => ax
  | .enable ax => ax
  | .disable ax => ax
  | .configure ax => ax
  | .slew ax => ax
  | .goto ax => ax
  | .start ax => ax
  | .stop ax => ax
  | .estop ax => ax
  | .retarget ax _ => ax
  | .wrJval ax _ => ax
  | .wrTarget ax _ => ax
  | .wrHval ax _ => ax
  | .wrMode ax _ _ _ => ax
  | .wrGotospeed ax _ => ax
  | .wrSidereal ax _ => ax
  | .wrBval ax _ => ax
  | .wrAxcfg ax _ => ax
  | .wrAccel ax _ _ _ => ax
  | .wrGcfg ax _ _ _ _ => ax

end Sys2Proof
end

