-- ==== Sys2Proof/WellFormed.lean ====
section
/-! DEFINITION. Which terms of `Instr` are instructions: those whose operands fit the fields of the word. -/

namespace Sys2Proof

/-- The one operand whose type is wider than its field is the table index of WR.ACCEL, a count: its field ADDR[2:0] has
three bits (30_encoding.md R82). Indices 6 and 7 fit the field, decode as WR.ACCEL and are refused when executed
(41_accel_profile.md R111). Every other operand has exactly the width of its field. -/
def Instr.wellFormed : Instr → Bool
  | .rd _ _ => true
  | .tick _ => true
  | .enable _ => true
  | .disable _ => true
  | .configure _ => true
  | .slew _ => true
  | .goto _ => true
  | .start _ => true
  | .stop _ => true
  | .estop _ => true
  | .retarget _ _ => true
  | .wrJval _ _ => true
  | .wrTarget _ _ => true
  | .wrHval _ _ => true
  | .wrMode _ _ _ _ => true
  | .wrGotospeed _ _ => true
  | .wrSidereal _ _ => true
  | .wrBval _ _ => true
  | .wrAxcfg _ _ => true
  | .wrAccel _ i _ _ => decide (i < 8)
  | .wrGcfg _ _ _ _ _ => true

end Sys2Proof
end

