-- ==== Sys2Proof/Word.lean ====
section
/-! DEFINITION. The transaction word of the port (30_encoding.md R80) and its plain field accessors. -/

namespace Sys2Proof

/-- Every input to the block is one 42-bit transaction word (R80). -/
abbrev TWord := BitVec 42

/-- KIND = w[41:40] (R80). -/
def TWord.kind (w : TWord) : BitVec 2 := w.extractLsb' 40 2

/-- ADDR[7] = w[39], the axis bit (R80, R82). -/
def TWord.axisBit (w : TWord) : Bool := w.getLsbD 39

/-- ADDR[6:0] = w[38:32], the register offset (R80, R82). -/
def TWord.offset (w : TWord) : BitVec 7 := w.extractLsb' 32 7

/-- DATA = w[31:0] (R80). -/
def TWord.data (w : TWord) : BitVec 32 := w.extractLsb' 0 32

/-- The word with the given fields (R80). -/
def TWord.make (kind : BitVec 2) (axisBit : Bool) (offset : BitVec 7) (data : BitVec 32) : TWord :=
  kind.setWidth 42 <<< 40 ||| (BitVec.ofBool axisBit).setWidth 42 <<< 39 ||| offset.setWidth 42 <<< 32 |||
    data.setWidth 42

end Sys2Proof
end

