-- ==== Sys2Proof/Decode.lean ====
section
/-! DEFINITION. The decoder of 30_encoding.md R90, total on every word, the opcode table it agrees with, the encoder
(R93) and the assembly-level pseudo-instructions (R94). -/

namespace Sys2Proof

/-- Why a word is reserved (R91). Each such word is answered ILLEGAL by the step (R91, R232). -/
inductive Reserved where
  /-- KIND = 0b11. -/
  | kind
  /-- KIND = 0b10 with an offset or data bit set (R84). -/
  | malformedTick
  /-- A CMD write with a reserved OP, nonzero reserved bits, or an operand the OP does not take (R87). -/
  | malformedCmd
  /-- A WR to a read-only or unmapped offset (R190). -/
  | notWritable
  deriving DecidableEq, Repr

/-- Step (4) of R90: the CMD operation of R88 selected by `DATA[3:0]`, subject to R87. -/
def decodeCmd (ax : Axis) (data : BitVec 32) : Except Reserved Instr :=
  let v := data.extractLsb' 16 16
  if data.extractLsb' 4 12 ≠ 0 then .error .malformedCmd
  else if data.extractLsb' 0 4 = 0x9 then .ok (.retarget ax v)
  else if v ≠ 0 then .error .malformedCmd
  else if data.extractLsb' 0 4 = 0x1 then .ok (.enable ax)
  else if data.extractLsb' 0 4 = 0x2 then .ok (.disable ax)
  else if data.extractLsb' 0 4 = 0x3 then .ok (.configure ax)
  else if data.extractLsb' 0 4 = 0x4 then .ok (.slew ax)
  else if data.extractLsb' 0 4 = 0x5 then .ok (.goto ax)
  else if data.extractLsb' 0 4 = 0x6 then .ok (.start ax)
  else if data.extractLsb' 0 4 = 0x7 then .ok (.stop ax)
  else if data.extractLsb' 0 4 = 0x8 then .ok (.estop ax)
  else .error .malformedCmd

/-- Steps (5) and (6) of R90: the WR of the register at `offset`, with the operand fields of R89. The writable offsets
are those of R190. -/
def decodeWr (ax : Axis) (offset : BitVec 7) (data : BitVec 32) : Except Reserved Instr :=
  if offset = 0x03 then .ok (.wrJval ax (data.extractLsb' 0 24))
  else if offset = 0x04 then .ok (.wrTarget ax (data.extractLsb' 0 16))
  else if offset = 0x09 then .ok (.wrHval ax (data.extractLsb' 0 24))
  else if offset = 0x0A then .ok (.wrMode ax (data.extractLsb' 0 4) (data.getLsbD 4) (data.getLsbD 5))
  else if offset = 0x10 then .ok (.wrGotospeed ax (data.extractLsb' 0 8))
  else if offset = 0x11 then .ok (.wrSidereal ax (data.extractLsb' 0 16))
  else if offset = 0x12 then .ok (.wrBval ax (data.extractLsb' 0 24))
  else if offset = 0x13 then .ok (.wrAxcfg ax (data.getLsbD 0))
  else if offset.extractLsb' 3 4 = 0b1000 then
    .ok (.wrAccel ax (offset.extractLsb' 0 3).toNat (data.extractLsb' 0 16) (data.extractLsb' 16 8))
  else if offset = 0x70 then
    .ok (.wrGcfg ax (data.extractLsb' 0 8) (data.extractLsb' 8 4) (data.getLsbD 12) (data.getLsbD 13))
  else .error .notWritable

/-- The decoder: a total function of the word, in the order of R90. -/
def decode (w : TWord) : Except Reserved Instr :=
  let ax := Axis.ofBit w.axisBit
  if w.kind = 0b11 then .error .kind
  else if w.kind = 0b10 then
    if w.offset = 0 ∧ w.data = 0 then .ok (.tick ax) else .error .malformedTick
  else if w.kind = 0b00 then .ok (.rd ax w.offset)
  else if w.offset = 0x00 then decodeCmd ax w.data
  else decodeWr ax w.offset w.data

/-- The word of an instruction, from the fields of R80 to R89 and the assembly syntax of R93. Bits that the block
ignores are written as zero (log entry 12). -/
def encode : Instr → TWord
  | .rd ax off => TWord.make 0b00 ax.bit off 0
  | .tick ax => TWord.make 0b10 ax.bit 0 0
  | .enable ax => TWord.make 0b01 ax.bit 0 0x1
  | .disable ax => TWord.make 0b01 ax.bit 0 0x2
  | .configure ax => TWord.make 0b01 ax.bit 0 0x3
  | .slew ax => TWord.make 0b01 ax.bit 0 0x4
  | .goto ax => TWord.make 0b01 ax.bit 0 0x5
  | .start ax => TWord.make 0b01 ax.bit 0 0x6
  | .stop ax => TWord.make 0b01 ax.bit 0 0x7
  | .estop ax => TWord.make 0b01 ax.bit 0 0x8
  | .retarget ax v => TWord.make 0b01 ax.bit 0 (v.setWidth 32 <<< 16 ||| 0x9)
  | .wrJval ax v => TWord.make 0b01 ax.bit 0x03 (v.setWidth 32)
  | .wrTarget ax v => TWord.make 0b01 ax.bit 0x04 (v.setWidth 32)
  | .wrHval ax v => TWord.make 0b01 ax.bit 0x09 (v.setWidth 32)
  | .wrMode ax g d e =>
      TWord.make 0b01 ax.bit 0x0A ((BitVec.ofBool e).setWidth 32 <<< 5 ||| (BitVec.ofBool d).setWidth 32 <<< 4 ||| g.setWidth 32)
  | .wrGotospeed ax v => TWord.make 0b01 ax.bit 0x10 (v.setWidth 32)
  | .wrSidereal ax v => TWord.make 0b01 ax.bit 0x11 (v.setWidth 32)
  | .wrBval ax b => TWord.make 0b01 ax.bit 0x12 (b.setWidth 32)
  | .wrAxcfg ax r => TWord.make 0b01 ax.bit 0x13 ((BitVec.ofBool r).setWidth 32)
  | .wrAccel ax i sp r =>
      TWord.make 0b01 ax.bit (0x40 ||| BitVec.ofNat 7 (i % 8)) (r.setWidth 32 <<< 16 ||| sp.setWidth 32)
  | .wrGcfg ax m f h a =>
      TWord.make 0b01 ax.bit 0x70
        ((BitVec.ofBool a).setWidth 32 <<< 13 ||| (BitVec.ofBool h).setWidth 32 <<< 12 ||| f.setWidth 32 <<< 8 |||
          m.setWidth 32)

/-- One row of opcode_table.json: the words `w` with `w &&& mask = pattern` are the instructions of that mnemonic. -/
structure OpRow where
  mnemonic : String
  pattern : TWord
  mask : TWord
  deriving DecidableEq, Repr

/-- The word matches the row. -/
def OpRow.matchesWord (r : OpRow) (w : TWord) : Bool := (w &&& r.mask) == r.pattern

/-- opcode_table.json, row by row (R90: "one row per decoded instruction with its match and mask over the 42 bits"). -/
def opTable : List OpRow :=
  [ ⟨"RD", 0x00000000000, 0x30000000000⟩,
    ⟨"TICK", 0x20000000000, 0x37FFFFFFFFF⟩,
    ⟨"ENABLE", 0x10000000001, 0x37FFFFFFFFF⟩,
    ⟨"DISABLE", 0x10000000002, 0x37FFFFFFFFF⟩,
    ⟨"CONFIGURE", 0x10000000003, 0x37FFFFFFFFF⟩,
    ⟨"SLEW", 0x10000000004, 0x37FFFFFFFFF⟩,
    ⟨"GOTO", 0x10000000005, 0x37FFFFFFFFF⟩,
    ⟨"START", 0x10000000006, 0x37FFFFFFFFF⟩,
    ⟨"STOP", 0x10000000007, 0x37FFFFFFFFF⟩,
    ⟨"ESTOP", 0x10000000008, 0x37FFFFFFFFF⟩ ] ++
  [ ⟨"RETARGET", 0x10000000009, 0x37F0000FFFF⟩,
    ⟨"WR.JVAL", 0x10300000000, 0x37F00000000⟩,
    ⟨"WR.TARGET", 0x10400000000, 0x37F00000000⟩,
    ⟨"WR.HVAL", 0x10900000000, 0x37F00000000⟩,
    ⟨"WR.MODE", 0x10A00000000, 0x37F00000000⟩,
    ⟨"WR.GOTOSPEED", 0x11000000000, 0x37F00000000⟩,
    ⟨"WR.SIDEREAL", 0x11100000000, 0x37F00000000⟩,
    ⟨"WR.BVAL", 0x11200000000, 0x37F00000000⟩,
    ⟨"WR.AXCFG", 0x11300000000, 0x37F00000000⟩,
    ⟨"WR.ACCEL", 0x14000000000, 0x37800000000⟩,
    ⟨"WR.GCFG", 0x17000000000, 0x37F00000000⟩ ]

/-- The mnemonic of an instruction in opcode_table.json. -/
def Instr.mnemonic : Instr → String
  | .rd _ _ => "RD"
  | .tick _ => "TICK"
  | .enable _ => "ENABLE"
  | .disable _ => "DISABLE"
  | .configure _ => "CONFIGURE"
  | .slew _ => "SLEW"
  | .goto _ => "GOTO"
  | .start _ => "START"
  | .stop _ => "STOP"
  | .estop _ => "ESTOP"
  | .retarget _ _ => "RETARGET"
  | .wrJval _ _ => "WR.JVAL"
  | .wrTarget _ _ => "WR.TARGET"
  | .wrHval _ _ => "WR.HVAL"
  | .wrMode _ _ _ _ => "WR.MODE"
  | .wrGotospeed _ _ => "WR.GOTOSPEED"
  | .wrSidereal _ _ => "WR.SIDEREAL"
  | .wrBval _ _ => "WR.BVAL"
  | .wrAxcfg _ _ => "WR.AXCFG"
  | .wrAccel _ _ _ _ => "WR.ACCEL"
  | .wrGcfg _ _ _ _ _ => "WR.GCFG"

/-- The port's word among bits numbered as opcode_table.json numbers them: the table gives the word 42 bits, the host's
count is in whole bytes; bits above 41 are no bits of the port (R80; log entry 11). -/
def wordOfBits (nbits w : Nat) : TWord := BitVec.ofNat 42 (w % 2 ^ nbits)

/-- The instruction the decoder reads from `nbits` bits `w`; none where it refuses. -/
def decodeTableWord (nbits w : Nat) : Option Instr :=
  match decode (wordOfBits nbits w) with
  | .ok i => some i
  | .error _ => none

/-- R94: `WRMODE.<ax> g, d, e` expands to `WR MODE.<ax>, (e << 5) | (d << 4) | g`. -/
def asmWrMode (ax : Axis) (g : BitVec 4) (d e : Bool) : TWord :=
  TWord.make 0b01 ax.bit 0x0A
    ((BitVec.ofBool e).setWidth 32 <<< 5 ||| (BitVec.ofBool d).setWidth 32 <<< 4 ||| g.setWidth 32)

/-- R94: `WRACCEL.<ax> i, sp, r` expands to `WR ACCEL[i].<ax>, (r << 16) | sp`; ACCEL[i] is at offset 0x40 + i. -/
def asmWrAccel (ax : Axis) (i : BitVec 3) (sp : BitVec 16) (r : BitVec 8) : TWord :=
  TWord.make 0b01 ax.bit (0x40 + i.setWidth 7) (r.setWidth 32 <<< 16 ||| sp.setWidth 32)

/-- R94: `TICKS.<ax> n` expands to `n` copies of `TICK.<ax>`. -/
def asmTicks (ax : Axis) (n : Nat) : List TWord := List.replicate n (encode (.tick ax))

end Sys2Proof
end

