-- ==== Sys2Proof/Config.lean ====
section
/-! DEFINITION. What an implementation fixes and the spec leaves open (00_scope.md R7), as opaque constants; and the
configuration record given to reset (70_reset_and_hazards.md R260). -/

namespace Sys2Proof

/-- The open parameters of R7 that a rule of the block reads. The operations that need them take them as an argument;
`exec` supplies `Config.params`. -/
structure Params where
  /-- `MIN_IVAL`, the lower bound of the legal sidereal period (D29). -/
  minIval : Nat
  /-- `FAMILY_498X`, the distinguished member of `DRIVER_FAMILIES` (D40). -/
  family498X : BitVec 4
  /-- The members of `DRIVER_FAMILIES` besides `FAMILY_498X` (D40). -/
  otherFamilies : List (BitVec 4)
  deriving DecidableEq, Repr

/-- Membership in `DRIVER_FAMILIES`, "a set of 4-bit codes with a distinguished member `FAMILY_498X`" (R7, D40). -/
def Params.isFamily (p : Params) (f : BitVec 4) : Bool :=
  f == p.family498X || p.otherFamilies.contains f

/-- `MIN_IVAL - 1`: free within the bound that D29 sets (`1 ≤ MIN_IVAL ≤ 1200`). Log entry 4. -/
opaque Config.minIvalPred : Fin 1200

/-- The code of the 498x family (D40, N11: "Must not assume: that family 0 is the 498x family"). Log entry 4. -/
opaque Config.family498X : BitVec 4

/-- The codes of the other driver families (D40). Log entry 4. -/
opaque Config.otherFamilies : List (BitVec 4)

/-- `MODE_MAP(driverFamily, microsteps, highSpeed)`: the levels on the microstep-selection pins; neither the number of
pins nor the table is given (D28, N10). Log entry 4. -/
opaque Config.modeMap : BitVec 4 → BitVec 8 → Bool → List Bool

/-- The four ST4 buttons (60_exceptions.md R246); they belong to the host. -/
structure St4Buttons where
  raPlus : Bool
  raMinus : Bool
  dcPlus : Bool
  dcMinus : Bool
  deriving DecidableEq, Repr

/-- `ST4_PERIOD(axis, buttons, siderealIVal)`: the period and direction of the host's ST4 handler (R218, D32). Log
entries 4 and 10. -/
opaque Config.st4Period : Axis → St4Buttons → BitVec 16 → BitVec 16 × Bool

/-- Free values, by number, each less one. Log entry 15. -/
opaque Config.freeSpeedPred : Nat → Fin 0xFFFF

/-- What `targetSpeed` becomes where the spec writes `stopSpeed + 1` and `stopSpeed` is 0xFFFF: free within [1, 0xFFFF]. The
spec states no result there: it says that the case does not arise and that the sum never wraps to 0 (D46), and it bounds
the speeds and the countdown by 1 (10_state.md R24, R39), yet its own rules reach the case. Log entry 15. -/
def Config.freeSpeed (n : Nat) : BitVec 16 := BitVec.ofNat 16 ((Config.freeSpeedPred n).val + 1)

/-- The parameters of this machine: nothing but their bounds is known. -/
def Config.params : Params :=
  { minIval := Config.minIvalPred.val + 1
    family498X := Config.family498X
    otherFamilies := Config.otherFamilies }

/-- One entry `{speed, repeats}` of the acceleration table (10_state.md R48). -/
structure AccelEntry where
  speed : BitVec 16
  repeats : BitVec 8
  deriving DecidableEq, Repr

/-- The per-axis part of the configuration record (R260). -/
structure AxisConfig where
  bVal : BitVec 24
  siderealIVal : BitVec 16
  normalGotoSpeed : BitVec 8
  reverse : Bool
  accel : Vector AccelEntry 6
  deriving DecidableEq, Repr

/-- The global configuration (10_state.md R50), both in the record given to reset and in the state. -/
structure GlobalConfig where
  microsteps : BitVec 8
  driverFamily : BitVec 4
  allowHighSpeed : Bool
  allowAdvancedHC : Bool
  deriving DecidableEq, Repr

/-- The configuration record `cfg` given to reset (R260). -/
structure ResetConfig where
  ra : AxisConfig
  dc : AxisConfig
  glob : GlobalConfig
  deriving DecidableEq, Repr

/-- The axis's part of the record. -/
def ResetConfig.axis (c : ResetConfig) : Axis → AxisConfig
  | .ra => c.ra
  | .dc => c.dc

/-- Accel table "A" of 95_test_vectors.md section 0. -/
def Config.accelA : Vector AccelEntry 6 :=
  #v[⟨200, 2⟩, ⟨100, 2⟩, ⟨50, 2⟩, ⟨30, 2⟩, ⟨20, 2⟩, ⟨12, 2⟩]

/-- One axis of the default configuration of 95_test_vectors.md section 0. -/
def Config.bootAxis : AxisConfig :=
  { bVal := 40000, siderealIVal := 1000, normalGotoSpeed := 16, reverse := false, accel := Config.accelA }

/-- DESIGN CHOICE (unsafe, log entry 3): the configuration `State.reset` is built from. R260 makes `cfg` an argument of
reset and the spec gives no stored values; these are those of its own default configuration (95_test_vectors.md
section 0). -/
def Config.bootConfig : ResetConfig :=
  { ra := Config.bootAxis
    dc := Config.bootAxis
    glob := { microsteps := 32, driverFamily := 0, allowHighSpeed := true, allowAdvancedHC := false } }

end Sys2Proof
end

