-- ==== Sys2Proof/Machine/RateTable.lean ====
section
/-! DEFINITION. The Rate Table Builder (40_rate_table.md R101, R102). -/

namespace Sys2Proof.Machine

/-- `ceil_div(a, b) = (a + b - 1) div b` (00_scope.md R8). -/
def ceilDiv (a b : Nat) : Nat := (a + b - 1) / b

/-- `N = 32 * 8_000_000`, `T = (2*N + b) div (2*b)`: N / b rounded half up (R101). -/
def rateTotal (b : Nat) : Nat := (2 * (32 * 8000000) + b) / (2 * b)

/-- Slot `i` of an unclamped table of total `T` (R101). -/
def rateSlot (T i : Nat) : Nat := ceilDiv ((i + 1) * T) 32 - ceilDiv (i * T) 32

/-- The table of total `T`: 32 slots, every one at the bound where the ideal period `T / 32` lies outside
[128, 65535] (R101, R102). -/
def rateTable (T : Nat) : Vector (BitVec 16) 32 :=
  if T > 32 * 65535 then Vector.replicate 32 65535
  else if T < 32 * 128 then Vector.replicate 32 128
  else Vector.ofFn fun i => BitVec.ofNat 16 (rateSlot T i.val)

/-- `BuildRate(b)` (R101). The divisor 0 is refused before any build (R100, R261). -/
def buildRate (b : BitVec 24) : Vector (BitVec 16) 32 := rateTable (rateTotal b.toNat)

end Sys2Proof.Machine
end

