-- ==== Sys2Proof/Machine/AxisState.lean ====
section
/-! DEFINITION. The state of one axis: Motion State, the two tables and the per-axis configuration
(10_state.md R20 to R49), and its reset values (R58). -/

namespace Sys2Proof.Machine

open Sys2Proof

/-- One axis's copy of every per-axis field, under the spec's names. One-bit fields are Bool, 1 being true. -/
structure AxisState where
  /-- Step position (R22). -/
  jVal : BitVec 24
  /-- Period accelerated or decelerated toward (R23). -/
  targetSpeed : BitVec 16
  /-- Period in effect (R24). -/
  currentSpeed : BitVec 16
  /-- Period above which motion has ended (R25). -/
  stopSpeed : BitVec 16
  /-- Commanded direction, true is reverse (R27). -/
  dir : Bool
  /-- Signed position delta per step, two's complement (R28). -/
  stepDir : BitVec 8
  /-- Coarse microstep mode (R29). -/
  highSpeedMode : Bool
  /-- Engine idle (R30). -/
  stopped : Bool
  /-- A goto is under way (R31). -/
  gotoRunning : Bool
  /-- The goto trigger has latched (R31). -/
  gotoDecelerating : Bool
  /-- Goto armed (R32). -/
  gotoEn : Bool
  /-- The position at which deceleration begins (R33). -/
  gotoTarget : BitVec 24
  /-- The clamped deceleration length of the last GOTO (R34). -/
  decelLength : BitVec 24
  /-- Goto distance (R35). -/
  HVal : BitVec 24
  /-- Mode selector (R36). -/
  GVal : BitVec 4
  /-- Accel-table cursor, "always in [0, 5]" (R37; log entry 7). -/
  accelIndex : Fin 6
  /-- Dwell countdown, in rises (R37). -/
  accelRepeatsLeft : BitVec 16
  /-- Rate-table cursor (R38). -/
  distributionSegment : BitVec 5
  /-- Ticks to the next edge (R39). -/
  irqToNext : BitVec 16
  /-- Timer running with its capture interrupt enabled (R40). -/
  timerOn : Bool
  /-- The timer's top value (R41). -/
  timerTop : BitVec 16
  /-- Step output (R42). -/
  stepPin : Bool
  /-- Direction output (R43). -/
  dirPin : Bool
  /-- Driver-enable output, active low (R44). -/
  enablePin : Bool
  /-- Axis marked enabled (R44). -/
  enabled : Bool
  /-- Microstep-mode selection (R45). -/
  modeSel : Bool
  /-- Result code of the last write transaction (R46). -/
  err : BitVec 4
  /-- The rate table `P[0..31]` (R47). -/
  rate : Vector (BitVec 16) 32
  /-- The acceleration table `A[0..5]` (R48). -/
  accel : Vector AccelEntry 6
  /-- Divisor of the rate table (R49). -/
  bVal : BitVec 24
  /-- Sidereal period (R49). -/
  siderealIVal : BitVec 16
  /-- Cruise period of a goto (R49). -/
  normalGotoSpeed : BitVec 8
  /-- Wiring direction (R49). -/
  reverse : Bool
  /-- The model's own field: the number of the next free value (log entry 15). -/
  freeCount : Nat
  deriving DecidableEq, Repr

/-- `minSpeed = A[s][0].speed` at every instant (R26, R112). -/
def AxisState.minSpeed (a : AxisState) : BitVec 16 := a.accel[0].speed

/-- One axis after reset with its part of `cfg` (R58); `n` is the number of its next free value, which is the model's own
and which reset does not touch. -/
def AxisState.resetWith (c : AxisConfig) (n : Nat) : AxisState :=
  { jVal := 0x800000
    targetSpeed := c.siderealIVal
    currentSpeed := c.siderealIVal
    stopSpeed := c.siderealIVal
    dir := false
    stepDir := 1
    highSpeedMode := false
    stopped := true
    gotoRunning := false
    gotoDecelerating := false
    gotoEn := false
    gotoTarget := 0
    decelLength := 0
    HVal := 0
    GVal := 1
    accelIndex := 0
    accelRepeatsLeft := 0
    distributionSegment := 0
    irqToNext := 1
    timerOn := false
    timerTop := (buildRate c.bVal)[0]
    stepPin := false
    dirPin := c.reverse
    enablePin := true
    enabled := false
    modeSel := false
    err := 0
    rate := buildRate c.bVal
    accel := c.accel
    bVal := c.bVal
    siderealIVal := c.siderealIVal
    normalGotoSpeed := c.normalGotoSpeed
    reverse := c.reverse
    freeCount := n }

end Sys2Proof.Machine
end

