-- ==== Sys2Proof/Machine/State.lean ====
section
/-! DEFINITION. The state of the block, the reasons a step may stop, and the state after reset. -/

namespace Sys2Proof.Machine

open Sys2Proof

/-- The result codes of 60_exceptions.md R232; codes 6 to 15 do not exist. -/
inductive Code where
  /-- Success. -/
  | ok
  /-- A reserved word or an unreadable address. -/
  | illegal
  /-- CONFIGURE or GOTO on a running axis. -/
  | notStopped
  /-- A payload out of range. -/
  | range
  /-- A configuration write while either axis runs. -/
  | busy
  /-- `dir` disagrees with the sign of `stepDir`. -/
  | inconsistent
  deriving DecidableEq, Repr

/-- The response that ends a transaction (R231). -/
structure Response where
  code : Code
  data : BitVec 32
  deriving DecidableEq, Repr

/-- What one step of the block is fed (00_scope.md R14): a transaction word, from the host or (a TICK word) from an
axis's timer, or a reset with its configuration record (R260). -/
inductive Input where
  | word (w : TWord)
  | reset (cfg : ResetConfig)
  deriving DecidableEq, Repr

/-- The whole machine. -/
structure State where
  /-- Axis RA. -/
  ra : AxisState
  /-- Axis DC. -/
  dc : AxisState
  /-- The global configuration `G` (R50). -/
  glob : GlobalConfig
  /-- The response of the last step, none after a TICK or a reset (R231; log entry 5). -/
  response : Option Response
  /-- The model's own field: the inputs still to come, in the order of their steps (R62; log entry 1). -/
  input : List Input
  deriving DecidableEq, Repr

/-- Faults. None exists: "The block raises no exception and takes no trap", "Internally there are no recoverable
faults" (R230). No meaning and no step can end in one. -/
inductive Fault where
  deriving DecidableEq, Repr

/-- Refusals. -/
inductive Refusal where
  /-- Raised by an arm of `exec` whose instruction has no meaning yet (no arm is left so). Safe: the machine stops. -/
  | notModelled (mnemonic : String)
  /-- Raised by the step on a reset input whose `cfg` fails a write check: "`reset` of an invalid `cfg` is not defined.
  A model refuses it as a precondition failure" (70_reset_and_hazards.md R261; log entry 14). Safe: the machine
  stops. -/
  | invalidResetConfig
  deriving DecidableEq, Repr

/-- The machine right after reset with `cfg`, with the given inputs still to come (R58, R260); `m` and `n` number the next
free values of the axes (log entry 15). -/
def State.resetWith (cfg : ResetConfig) (m n : Nat) (input : List Input) : State :=
  { ra := AxisState.resetWith cfg.ra m
    dc := AxisState.resetWith cfg.dc n
    glob := cfg.glob
    response := none
    input := input }

/-- The machine right after power-up: reset with the boot configuration (log entry 3), nothing presented yet. RA
numbers its free values with even, DC with odd numbers (log entry 15). -/
def State.reset : State := State.resetWith Config.bootConfig 0 1 []

end Sys2Proof.Machine
end

