-- ==== Sys2Proof/Machine/Operands.lean ====
section
/-! DEFINITION. The register map of one axis (10_state.md R51) and the range checks on written values
(44_register_access.md, 41_accel_profile.md R111, 40_rate_table.md R100). -/

namespace Sys2Proof.Machine

open Sys2Proof

/-- The registers of R51. -/
inductive Reg where
  | cmd
  | status
  | err
  | jval
  | target
  | curspeed
  | stopspeed
  | minspeed
  | gototarget
  | hval
  | mode
  | stepdir
  | accelpos
  | seqpos
  | timertop
  | pins
  | gotospeed
  | sidereal
  | bval
  | axcfg
  | decellen
  | rate (i : BitVec 5)
  | accel (i : Fin 6)
  | gcfg
  deriving DecidableEq, Repr

/-- The offset ADDR[6:0] of a register (R51); RATE[i] at 0x20 + i, ACCEL[i] at 0x40 + i. -/
def Reg.offset : Reg → BitVec 7
  | .cmd => 0x00
  | .status => 0x01
  | .err => 0x02
  | .jval => 0x03
  | .target => 0x04
  | .curspeed => 0x05
  | .stopspeed => 0x06
  | .minspeed => 0x07
  | .gototarget => 0x08
  | .hval => 0x09
  | .mode => 0x0A
  | .stepdir => 0x0B
  | .accelpos => 0x0C
  | .seqpos => 0x0D
  | .timertop => 0x0E
  | .pins => 0x0F
  | .gotospeed => 0x10
  | .sidereal => 0x11
  | .bval => 0x12
  | .axcfg => 0x13
  | .decellen => 0x14
  | .rate i => 0x20 + i.setWidth 7
  | .accel i => 0x40 + BitVec.ofNat 7 i.val
  | .gcfg => 0x70

/-- The registers at a single offset. -/
def Reg.singles : List Reg :=
  [.cmd, .status, .err, .jval, .target, .curspeed, .stopspeed, .minspeed, .gototarget, .hval, .mode, .stepdir,
    .accelpos, .seqpos, .timertop, .pins, .gotospeed, .sidereal, .bval, .axcfg, .decellen, .gcfg]

/-- The register an offset names, if any (R51, R72). RATE uses `i = ADDR[4:0]` with `ADDR[6:5] = 0b01`, ACCEL uses
`i = ADDR[2:0]` with `ADDR[6:3] = 0b1000` and `i ≤ 5` (R82). -/
def Reg.ofOffset (off : BitVec 7) : Option Reg :=
  if off.extractLsb' 5 2 = 0b01 then some (.rate (off.extractLsb' 0 5))
  else if off.extractLsb' 3 4 = 0b1000 then
    if h : (off.extractLsb' 0 3).toNat < 6 then some (.accel ⟨(off.extractLsb' 0 3).toNat, h⟩) else none
  else Reg.singles.find? fun r => r.offset == off

/-- Access code R of R51: every register but CMD is readable. -/
def Reg.readable : Reg → Bool
  | .cmd => false
  | _ => true

/-- Access code W of R51 (R190). -/
def Reg.writable : Reg → Bool
  | .cmd | .jval | .target | .hval | .mode | .gotospeed | .sidereal | .bval | .axcfg | .accel _ | .gcfg => true
  | _ => false

/-- Access code C of R51: the write needs both axes stopped (R73, R191). -/
def Reg.isConfig : Reg → Bool
  | .gotospeed | .sidereal | .bval | .axcfg | .accel _ | .gcfg => true
  | _ => false

/-- "wid" of R51: the number of low data bits that carry the field. -/
def Reg.width : Reg → Nat
  | .cmd => 32
  | .status => 8
  | .err => 4
  | .jval => 24
  | .target => 16
  | .curspeed => 16
  | .stopspeed => 16
  | .minspeed => 16
  | .gototarget => 24
  | .hval => 24
  | .mode => 6
  | .stepdir => 32
  | .accelpos => 32
  | .seqpos => 32
  | .timertop => 16
  | .pins => 5
  | .gotospeed => 8
  | .sidereal => 16
  | .bval => 24
  | .axcfg => 1
  | .decellen => 24
  | .rate _ => 16
  | .accel _ => 24
  | .gcfg => 14

/-- `SPEED_LEGAL = [1, 0xFFFE]` (00_scope.md R6, D5). -/
def speedLegal (v : BitVec 16) : Bool := v != 0 && v != 0xFFFF

/-- The check of WR.GOTOSPEED (R186). -/
def gotoSpeedLegal (v : BitVec 8) : Bool := v != 0

/-- The check of WR.SIDEREAL: `MIN_IVAL ≤ v ≤ 1200` (R187; `SIDEREAL_MAX`, R6). -/
def siderealLegal (p : Params) (v : BitVec 16) : Bool := decide (p.minIval ≤ v.toNat) && decide (v.toNat ≤ 1200)

/-- The check of WR.BVAL (R100). -/
def bValLegal (b : BitVec 24) : Bool := b != 0

/-- The legal microstep counts {1, 2, 4, 8, 16, 32} (R50, R189, D40). -/
def microstepsLegal (m : BitVec 8) : Bool := m == 1 || m == 2 || m == 4 || m == 8 || m == 16 || m == 32

/-- The check of WR.GCFG (R189): a known family, a legal count, and no count above 16 for the 498x family. -/
def gcfgLegal (p : Params) (m : BitVec 8) (f : BitVec 4) : Bool :=
  microstepsLegal m && p.isFamily f && !(f == p.family498X && decide (16 < m.toNat))

/-- The check R261 makes on one axis's part of `cfg`: each value passes the check of its write rule. -/
def axisConfigLegal (p : Params) (c : AxisConfig) : Bool :=
  bValLegal c.bVal && siderealLegal p c.siderealIVal && gotoSpeedLegal c.normalGotoSpeed &&
    c.accel.all fun e => speedLegal e.speed

/-- A valid `cfg` (R261). -/
def resetConfigLegal (p : Params) (c : ResetConfig) : Bool :=
  axisConfigLegal p c.ra && axisConfigLegal p c.dc && gcfgLegal p c.glob.microsteps c.glob.driverFamily

end Sys2Proof.Machine
end

