-- ==== Sys2Proof/Machine/Flags.lean ====
section
/-! DEFINITION. The layouts of the packed registers (10_state.md R52 to R55). -/

namespace Sys2Proof.Machine

open Sys2Proof

/-- STATUS (R52): bit 0 `stopped`, 1 `gotoRunning`, 2 `gotoDecelerating`, 3 `highSpeedMode`, 4 `dir`, 5 `gotoEn`,
6 `enabled`, 7 `timerOn`. -/
def AxisState.status (a : AxisState) : BitVec 8 :=
  (BitVec.ofBool a.stopped).setWidth 8 ||| (BitVec.ofBool a.gotoRunning).setWidth 8 <<< 1 |||
    (BitVec.ofBool a.gotoDecelerating).setWidth 8 <<< 2 ||| (BitVec.ofBool a.highSpeedMode).setWidth 8 <<< 3 |||
    (BitVec.ofBool a.dir).setWidth 8 <<< 4 ||| (BitVec.ofBool a.gotoEn).setWidth 8 <<< 5 |||
    (BitVec.ofBool a.enabled).setWidth 8 <<< 6 ||| (BitVec.ofBool a.timerOn).setWidth 8 <<< 7

/-- MODE (R53): bits 3:0 `GVal`, bit 4 `dir`, bit 5 `gotoEn`. -/
def AxisState.mode (a : AxisState) : BitVec 6 :=
  a.GVal.setWidth 6 ||| (BitVec.ofBool a.dir).setWidth 6 <<< 4 ||| (BitVec.ofBool a.gotoEn).setWidth 6 <<< 5

/-- PINS (R54): bit 0 `stepPin`, 1 `dirPin`, 2 `enablePin`, 3 `modeSel`, 4 `timerOn`. -/
def AxisState.pins (a : AxisState) : BitVec 5 :=
  (BitVec.ofBool a.stepPin).setWidth 5 ||| (BitVec.ofBool a.dirPin).setWidth 5 <<< 1 |||
    (BitVec.ofBool a.enablePin).setWidth 5 <<< 2 ||| (BitVec.ofBool a.modeSel).setWidth 5 <<< 3 |||
    (BitVec.ofBool a.timerOn).setWidth 5 <<< 4

/-- ACCELPOS (R54): `{accelRepeatsLeft[15:0], 13'b0, accelIndex[2:0]}`. -/
def AxisState.accelPos (a : AxisState) : BitVec 32 :=
  a.accelRepeatsLeft.setWidth 32 <<< 16 ||| BitVec.ofNat 32 a.accelIndex.val

/-- SEQPOS (R54): `{irqToNext[15:0], 11'b0, distributionSegment[4:0]}`. -/
def AxisState.seqPos (a : AxisState) : BitVec 32 :=
  a.irqToNext.setWidth 32 <<< 16 ||| a.distributionSegment.setWidth 32

/-- ACCEL[i] (R51): bits 23:16 repeats, 15:0 speed. -/
def accelWord (e : AccelEntry) : BitVec 24 :=
  e.repeats.setWidth 24 <<< 16 ||| e.speed.setWidth 24

/-- GCFG (R55): bits 7:0 `microsteps`, 11:8 `driverFamily`, 12 `allowHighSpeed`, 13 `allowAdvancedHC`. -/
def gcfgWord (g : GlobalConfig) : BitVec 14 :=
  g.microsteps.setWidth 14 ||| g.driverFamily.setWidth 14 <<< 8 |||
    (BitVec.ofBool g.allowHighSpeed).setWidth 14 <<< 12 ||| (BitVec.ofBool g.allowAdvancedHC).setWidth 14 <<< 13

end Sys2Proof.Machine
end

