-- ==== Sys2Proof/Machine/Ops.lean ====
section
/-! DEFINITION. The operations the meanings share: access to an axis, ending a transaction (accept and reject, which
take the place of exceptions in this block), reading a register, the accel-profile functions and the start procedure. -/

namespace Sys2Proof.Machine

open Sys2Proof

/-- The axis ADDR[7] selects (10_state.md R20, 20_memory.md R60). -/
def State.axis (s : State) : Axis → AxisState
  | .ra => s.ra
  | .dc => s.dc

/-- The state with one axis replaced. -/
def State.setAxis (s : State) (ax : Axis) (a : AxisState) : State :=
  match ax with
  | .ra => { s with ra := a }
  | .dc => { s with dc := a }

/-- The number of a result code (60_exceptions.md R232). -/
def Code.bits : Code → BitVec 4
  | .ok => 0
  | .illegal => 1
  | .notStopped => 2
  | .range => 3
  | .busy => 4
  | .inconsistent => 5

/-- `respond(code, data)` ends a transaction (R231). -/
def State.respond (s : State) (code : Code) (data : BitVec 32) : State :=
  { s with response := some ⟨code, data⟩ }

/-- `s.err <- code; respond(code, 0)`, the end of every write transaction (R233). -/
def State.finish (s : State) (ax : Axis) (code : Code) : State :=
  (s.setAxis ax { s.axis ax with err := code.bits }).respond code 0

/-- `reject(code)` writes no state except `err` (R233, R241: the block takes no trap; "a rejected transaction is
precise"). -/
def State.reject (s : State) (ax : Axis) (code : Code) : State := s.finish ax code

/-- `s.err <- OK; respond(OK, 0)` after the writes of a successful transaction. -/
def State.accept (s : State) (ax : Axis) : State := s.finish ax .ok

/-- A step that produces no response (R130, R131). -/
def State.silent (s : State) : State := { s with response := none }

/-- Both axes stopped, the condition of a configuration write (20_memory.md R73). -/
def State.bothStopped (s : State) : Bool := s.ra.stopped && s.dc.stopped

/-- The skeleton of a WR to a motion register (44_register_access.md R181): RANGE if the check fails, else the written
state `t` is accepted. -/
def State.writeMotion (s : State) (ax : Axis) (check : Bool) (t : State) : State :=
  if check then t.accept ax else s.reject ax .range

/-- The skeleton of a WR to a configuration register (R181, R191): BUSY before RANGE. -/
def State.writeConfig (s : State) (ax : Axis) (check : Bool) (t : State) : State :=
  if s.bothStopped then s.writeMotion ax check t else s.reject ax .busy

/-- `ReadValue(s, off)` of a register (R180), zero-extended to 32 bits but for STEPDIR, which is sign-extended. CMD is
not readable; its value here is never used. -/
def State.readReg (s : State) (ax : Axis) : Reg → BitVec 32
  | .cmd => 0
  | .status => (s.axis ax).status.setWidth 32
  | .err => (s.axis ax).err.setWidth 32
  | .jval => (s.axis ax).jVal.setWidth 32
  | .target => (s.axis ax).targetSpeed.setWidth 32
  | .curspeed => (s.axis ax).currentSpeed.setWidth 32
  | .stopspeed => (s.axis ax).stopSpeed.setWidth 32
  | .minspeed => (s.axis ax).minSpeed.setWidth 32
  | .gototarget => (s.axis ax).gotoTarget.setWidth 32
  | .hval => (s.axis ax).HVal.setWidth 32
  | .mode => (s.axis ax).mode.setWidth 32
  | .stepdir => (s.axis ax).stepDir.signExtend 32
  | .accelpos => (s.axis ax).accelPos
  | .seqpos => (s.axis ax).seqPos
  | .timertop => (s.axis ax).timerTop.setWidth 32
  | .pins => (s.axis ax).pins.setWidth 32
  | .gotospeed => (s.axis ax).normalGotoSpeed.setWidth 32
  | .sidereal => (s.axis ax).siderealIVal.setWidth 32
  | .bval => (s.axis ax).bVal.setWidth 32
  | .axcfg => (BitVec.ofBool (s.axis ax).reverse).setWidth 32
  | .decellen => (s.axis ax).decelLength.setWidth 32
  | .rate i => ((s.axis ax).rate[i.toNat]).setWidth 32
  | .accel i => (accelWord ((s.axis ax).accel[i.val])).setWidth 32
  | .gcfg => (gcfgWord s.glob).setWidth 32

/-- What an RD of `offset` answers (R180): the value of a readable register, none where the answer is ILLEGAL. -/
def State.read (s : State) (ax : Axis) (offset : BitVec 7) : Option (BitVec 32) :=
  match Reg.ofOffset offset with
  | some r => if r.readable then some (s.readReg ax r) else none
  | none => none

/-- The levels driven on the axis's microstep-selection pins (10_state.md R45, 60_exceptions.md R246). -/
def State.modePins (s : State) (ax : Axis) : List Bool :=
  Config.modeMap s.glob.driverFamily s.glob.microsteps (s.axis ax).modeSel

/-- `s.targetSpeed <- s.stopSpeed + 1` (42_step_engine.md R135, 43_motor_control.md R159). Where the sum does not fit the
16 bits of the register, the value is free: the spec states no result (R142, D46; log entry 15). -/
def AxisState.aimPastStop (a : AxisState) : AxisState :=
  if a.stopSpeed = 0xFFFF then
    { a with targetSpeed := Config.freeSpeed a.freeCount, freeCount := a.freeCount + 2 }
  else { a with targetSpeed := a.stopSpeed + 1 }

/-- `Rep(s, i)`, the dwell loaded for accel entry `i` (41_accel_profile.md R114). -/
def AxisState.rep (a : AxisState) (i : Fin 6) : BitVec 16 :=
  if a.highSpeedMode then 3 * a.accel[i.val].repeats.setWidth 16 + 2 else a.accel[i.val].repeats.setWidth 16

/-- `CruiseIndex(s, g)`: the least `i` with `A[s][i].speed ≤ g`, or 5 (R115). -/
def AxisState.cruiseIndex (a : AxisState) (g : BitVec 16) : Fin 6 :=
  if a.accel[0].speed ≤ g then 0
  else if a.accel[1].speed ≤ g then 1
  else if a.accel[2].speed ≤ g then 2
  else if a.accel[3].speed ≤ g then 3
  else if a.accel[4].speed ≤ g then 4
  else 5

/-- `|s.stepDir|` (R116, R157). -/
def AxisState.mag (a : AxisState) : Nat := a.stepDir.toInt.natAbs

/-- The sum of `repeats + 1` over the entries `0 .. k - 1` (R116). -/
def AxisState.dwellSum (a : AxisState) (k : Fin 6) : Nat :=
  ((a.accel.toList.take k.val).map fun e => e.repeats.toNat + 1).sum

/-- `DecelSteps(s) = 1 + m * sum` (R116). -/
def AxisState.decelSteps (a : AxisState) : Nat :=
  1 + (if a.highSpeedMode then 3 else 1) * a.dwellSum (a.cruiseIndex (a.normalGotoSpeed.setWidth 16))

/-- `DecelLength(s) = |s.stepDir| * DecelSteps(s)` (R116). -/
def AxisState.decelLengthFull (a : AxisState) : Nat := a.mag * a.decelSteps

/-- `DirConsistent(s)` is `(s.stepDir < 0) == (s.dir == 1)` (43_motor_control.md R162). -/
def AxisState.dirConsistent (a : AxisState) : Bool := a.stepDir.slt 0 == a.dir

/-- `stop = max(s.targetSpeed, s.minSpeed)` of the start procedure (R154). -/
def AxisState.startStop (a : AxisState) : BitVec 16 :=
  if a.targetSpeed ≤ a.minSpeed then a.minSpeed else a.targetSpeed

/-- `start` of the start procedure (R154): a running axis faster than `minSpeed` keeps its speed. -/
def AxisState.startSpeed (a : AxisState) : BitVec 16 :=
  if a.stopped then a.startStop
  else if a.currentSpeed < a.minSpeed then a.currentSpeed
  else a.startStop

/-- The writes of `Start(s)` on every axis (R154). -/
def AxisState.startCommon (a : AxisState) : AxisState :=
  { a with
    stopSpeed := a.startStop
    currentSpeed := a.startSpeed
    dirPin := a.dir ^^ a.reverse }

/-- The writes of `Start(s)` on a stopped axis only (R154, D9, D22). -/
def AxisState.startFresh (a : AxisState) : AxisState :=
  { a with
    accelIndex := 0
    accelRepeatsLeft := a.rep 0
    distributionSegment := 0
    irqToNext := 1
    timerTop := a.rate[0]
    stopped := false
    timerOn := true }

/-- The start procedure `Start(s)` shared by START, SLEW and GOTO (R154). -/
def AxisState.startMotion (a : AxisState) : AxisState :=
  if a.stopped then a.startCommon.startFresh else a.startCommon

/-- `HVal_eff`: GOTO masks the low three bits of `HVal` in high-speed mode (R157, D12). -/
def AxisState.gotoDistance (a : AxisState) : BitVec 24 :=
  if a.highSpeedMode then a.HVal &&& 0xFFFFF8 else a.HVal

/-- `dl = min(DecelLength(s), ((hv >> 1) div mag) * mag)` (R157, R158). -/
def AxisState.gotoDecel (a : AxisState) : Nat :=
  min a.decelLengthFull (a.gotoDistance.toNat / 2 / a.mag * a.mag)

/-- `(s.jVal + sgn * (hv - dl)) mod 2^24` (R157); `hv - dl` is never negative. -/
def AxisState.gotoTargetNew (a : AxisState) : BitVec 24 :=
  let d := BitVec.ofNat 24 (a.gotoDistance.toNat - a.gotoDecel)
  if a.dir then a.jVal - d else a.jVal + d

end Sys2Proof.Machine
end

