-- ==== Sys2Proof/Machine/ConfigAccess.lean ====
section
/-! DEFINITION. The writes to configuration registers: 44_register_access.md R186 to R191, 40_rate_table.md R100,
41_accel_profile.md R111. Where a check reads an open parameter (00_scope.md R7), the write takes the parameters as an
argument and `exec` supplies `Config.params`. -/

namespace Sys2Proof.Machine

open Sys2Proof

/-- WR.GOTOSPEED (R186): a zero goto speed is RANGE. -/
def execWrGotospeed (ax : Axis) (v : BitVec 8) (s : State) : Host.Outcome State Fault Refusal :=
  .next (s.writeConfig ax (gotoSpeedLegal v) (s.setAxis ax { s.axis ax with normalGotoSpeed := v }))

/-- WR.SIDEREAL with the parameters given (R187). -/
def State.wrSidereal (p : Params) (ax : Axis) (v : BitVec 16) (s : State) : State :=
  s.writeConfig ax (siderealLegal p v) (s.setAxis ax { s.axis ax with siderealIVal := v })

/-- WR.SIDEREAL (R187). -/
def execWrSidereal (ax : Axis) (v : BitVec 16) (s : State) : Host.Outcome State Fault Refusal :=
  .next (s.wrSidereal Config.params ax v)

/-- WR.BVAL (R100): writes the divisor and rebuilds the rate table; `timerTop` is not changed. -/
def execWrBval (ax : Axis) (b : BitVec 24) (s : State) : Host.Outcome State Fault Refusal :=
  .next (s.writeConfig ax (bValLegal b) (s.setAxis ax { s.axis ax with bVal := b, rate := buildRate b }))

/-- WR.AXCFG (R188): no check; `dirPin` does not change. -/
def execWrAxcfg (ax : Axis) (r : Bool) (s : State) : Host.Outcome State Fault Refusal :=
  .next (s.writeConfig ax true (s.setAxis ax { s.axis ax with reverse := r }))

/-- WR.ACCEL (R111): RANGE for an index above 5, then for an illegal speed; monotonicity is not checked (R113). -/
def execWrAccel (ax : Axis) (i : Nat) (speed : BitVec 16) (repeats : BitVec 8) (s : State) :
    Host.Outcome State Fault Refusal :=
  .next (s.writeConfig ax (decide (i ≤ 5) && speedLegal speed)
    (s.setAxis ax { s.axis ax with accel := (s.axis ax).accel.setIfInBounds i ⟨speed, repeats⟩ }))

/-- WR.GCFG with the parameters given (R189); `err` is that of the axis ADDR[7] (R55). -/
def State.wrGcfg (p : Params) (ax : Axis) (g : GlobalConfig) (s : State) : State :=
  s.writeConfig ax (gcfgLegal p g.microsteps g.driverFamily) { s with glob := g }

/-- WR.GCFG (R189). -/
def execWrGcfg (ax : Axis) (m : BitVec 8) (f : BitVec 4) (h a : Bool) (s : State) :
    Host.Outcome State Fault Refusal :=
  .next (s.wrGcfg Config.params ax ⟨m, f, h, a⟩)

end Sys2Proof.Machine
end

