-- ==== Sys2Proof/Machine/MotorControl.lean ====
section
/-! DEFINITION. The nine operations written to CMD (43_motor_control.md R150 to R163). Malformed CMD words never reach
them: the decoder reserves them (R150, first check; 30_encoding.md R87). -/

namespace Sys2Proof.Machine

open Sys2Proof

/-- ENABLE (R151). -/
def execEnable (ax : Axis) (s : State) : Host.Outcome State Fault Refusal :=
  .next ((s.setAxis ax { s.axis ax with enablePin := false, enabled := true }).accept ax)

/-- DISABLE (R152). -/
def execDisable (ax : Axis) (s : State) : Host.Outcome State Fault Refusal :=
  .next ((s.setAxis ax { s.axis ax with enablePin := true, enabled := false }).accept ax)

/-- `hs` of CONFIGURE: `GVal > 2` and high speed allowed (R153). -/
def AxisState.wantsHighSpeed (a : AxisState) (g : GlobalConfig) : Bool := decide (a.GVal > 2) && g.allowHighSpeed

/-- The writes of CONFIGURE (R153). -/
def AxisState.configure (a : AxisState) (g : GlobalConfig) : AxisState :=
  let hs := a.wantsHighSpeed g
  let mag : BitVec 8 := if hs then 8 else 1
  { a with highSpeedMode := hs, modeSel := hs, stepDir := if a.dir then -mag else mag }

/-- CONFIGURE (R153): NOT_STOPPED on a running axis. -/
def execConfigure (ax : Axis) (s : State) : Host.Outcome State Fault Refusal :=
  .next (if (s.axis ax).stopped then (s.setAxis ax ((s.axis ax).configure s.glob)).accept ax
    else s.reject ax .notStopped)

/-- START (R155): INCONSISTENT if `dir` disagrees with `stepDir`. -/
def execStart (ax : Axis) (s : State) : Host.Outcome State Fault Refusal :=
  .next (if (s.axis ax).dirConsistent then (s.setAxis ax (s.axis ax).startMotion).accept ax
    else s.reject ax .inconsistent)

/-- The writes of SLEW (R156). -/
def AxisState.slew (a : AxisState) : AxisState :=
  { a with gotoRunning := false, gotoDecelerating := false }.startMotion

/-- SLEW (R156): allowed on a running axis (D17). -/
def execSlew (ax : Axis) (s : State) : Host.Outcome State Fault Refusal :=
  .next (if (s.axis ax).dirConsistent then (s.setAxis ax (s.axis ax).slew).accept ax
    else s.reject ax .inconsistent)

/-- The writes of GOTO (R157). -/
def AxisState.goto (a : AxisState) : AxisState :=
  { a with
    gotoTarget := a.gotoTargetNew
    decelLength := BitVec.ofNat 24 a.gotoDecel
    targetSpeed := a.normalGotoSpeed.setWidth 16
    gotoDecelerating := false
    gotoRunning := true }.startMotion

/-- GOTO (R157): NOT_STOPPED, then INCONSISTENT (R234). -/
def execGoto (ax : Axis) (s : State) : Host.Outcome State Fault Refusal :=
  .next (if (s.axis ax).stopped then
      if (s.axis ax).dirConsistent then (s.setAxis ax (s.axis ax).goto).accept ax
      else s.reject ax .inconsistent
    else s.reject ax .notStopped)

/-- STOP (R159): the engine then decelerates to a halt by itself. -/
def execStop (ax : Axis) (s : State) : Host.Outcome State Fault Refusal :=
  .next ((s.setAxis ax
    { s.axis ax with gotoRunning := false, gotoEn := false, GVal := 1 }.aimPastStop).accept ax)

/-- ESTOP (R160): the timer stops at once; the step pin, the speeds and the cursors stay as they are (D19). -/
def execEstop (ax : Axis) (s : State) : Host.Outcome State Fault Refusal :=
  .next ((s.setAxis ax { s.axis ax with
    timerOn := false
    stopped := true
    gotoRunning := false
    gotoDecelerating := false
    gotoEn := false
    GVal := 1 }).accept ax)

/-- RETARGET (R161): RANGE for a period outside [1, 0xFFFE]. -/
def execRetarget (ax : Axis) (v : BitVec 16) (s : State) : Host.Outcome State Fault Refusal :=
  .next (s.writeMotion ax (speedLegal v) (s.setAxis ax { s.axis ax with
    targetSpeed := v
    stopSpeed := if (s.axis ax).stopSpeed ≤ v then v else (s.axis ax).stopSpeed }))

end Sys2Proof.Machine
end

