-- ==== Sys2Proof/Machine/RegisterAccess.lean ====
section
/-! DEFINITION. RD and the writes to motion registers (44_register_access.md R180 to R185). -/

namespace Sys2Proof.Machine

open Sys2Proof

/-- RD (R180): the value of a readable register, else ILLEGAL in the response only. -/
def execRd (ax : Axis) (offset : BitVec 7) (s : State) : Host.Outcome State Fault Refusal :=
  .next (match s.read ax offset with
    | some v => s.respond .ok v
    | none => s.respond .illegal 0)

/-- WR.JVAL (R182): allowed while the axis runs, no check. -/
def execWrJval (ax : Axis) (v : BitVec 24) (s : State) : Host.Outcome State Fault Refusal :=
  .next (s.writeMotion ax true (s.setAxis ax { s.axis ax with jVal := v }))

/-- WR.TARGET (R183): `1 ≤ v ≤ 0xFFFE`. -/
def execWrTarget (ax : Axis) (v : BitVec 16) (s : State) : Host.Outcome State Fault Refusal :=
  .next (s.writeMotion ax (speedLegal v) (s.setAxis ax { s.axis ax with targetSpeed := v }))

/-- WR.HVAL (R184): no check. -/
def execWrHval (ax : Axis) (v : BitVec 24) (s : State) : Host.Outcome State Fault Refusal :=
  .next (s.writeMotion ax true (s.setAxis ax { s.axis ax with HVal := v }))

/-- WR.MODE (R185): no check, allowed while the axis runs. -/
def execWrMode (ax : Axis) (g : BitVec 4) (d e : Bool) (s : State) : Host.Outcome State Fault Refusal :=
  .next (s.writeMotion ax true (s.setAxis ax { s.axis ax with GVal := g, dir := d, gotoEn := e }))

end Sys2Proof.Machine
end

