-- ==== Sys2Proof/Machine/StepEngine.lean ====
section
/-! DEFINITION. The Step Engine: TICK (42_step_engine.md R130 to R140). -/

namespace Sys2Proof.Machine

open Sys2Proof

/-- Line b of R131, the slot advance of every edge (R133): `irqToNext` takes the `currentSpeed` in effect before this
edge's walk. -/
def AxisState.slotAdvance (a : AxisState) : AxisState :=
  { a with
    distributionSegment := a.distributionSegment + 1
    timerTop := a.rate[(a.distributionSegment + 1).toNat]
    irqToNext := a.currentSpeed }

/-- A fall drops the pin and adds the signed `stepDir` to `jVal` modulo 2^24 (R134). -/
def AxisState.completePulse (a : AxisState) : AxisState :=
  { a with stepPin := false, jVal := a.jVal + a.stepDir.signExtend 24 }

/-- The goto trigger of a fall, on the updated `jVal` (R135). -/
def AxisState.trigger (a : AxisState) : AxisState :=
  if a.gotoRunning && !a.gotoDecelerating && a.jVal == a.gotoTarget then
    { a with gotoDecelerating := true }.aimPastStop
  else a

/-- The stop of a fall, after the trigger (R136). -/
def AxisState.stopCheck (a : AxisState) : AxisState :=
  if a.currentSpeed > a.stopSpeed then
    { a with stopped := true, gotoRunning := false, timerOn := false }
  else a

/-- Line c of R131: a fall completes the pulse (R134 to R136). -/
def AxisState.fall (a : AxisState) : AxisState := a.completePulse.trigger.stopCheck

/-- "Too slow: accelerate" (R138). -/
def AxisState.accelerate (a : AxisState) : AxisState :=
  if a.accelIndex = 5 then { a with currentSpeed := a.targetSpeed }
  else
    let i := a.accelIndex + 1
    if a.accel[i.val].speed < a.targetSpeed then { a with accelIndex := i, currentSpeed := a.targetSpeed }
    else { a with accelIndex := i, currentSpeed := a.accel[i.val].speed, accelRepeatsLeft := a.rep i }

/-- "Too fast: decelerate", the mirror (R139). -/
def AxisState.decelerate (a : AxisState) : AxisState :=
  if a.accelIndex = 0 then { a with currentSpeed := a.targetSpeed }
  else
    let i := a.accelIndex - 1
    if a.accel[i.val].speed > a.targetSpeed then { a with accelIndex := i, currentSpeed := a.targetSpeed }
    else { a with accelIndex := i, currentSpeed := a.accel[i.val].speed, accelRepeatsLeft := a.rep i }

/-- The walk of a rise with no dwell left (R137 to R140). -/
def AxisState.walk (a : AxisState) : AxisState :=
  if a.currentSpeed > a.targetSpeed then a.accelerate
  else if a.currentSpeed < a.targetSpeed then a.decelerate
  else a

/-- Line d of R131: a rise starts the next pulse and counts the dwell or walks the table (R137). -/
def AxisState.rise (a : AxisState) : AxisState :=
  let b := { a with stepPin := true }
  if b.accelRepeatsLeft > 0 then { b with accelRepeatsLeft := b.accelRepeatsLeft - 1 } else b.walk

/-- An edge: lines b to d of R131. -/
def AxisState.edge (a : AxisState) : AxisState :=
  if a.stepPin then a.slotAdvance.fall else a.slotAdvance.rise

/-- Line a of R131, the countdown (R132), then the edge where it reaches 0. -/
def AxisState.countdown (a : AxisState) : AxisState :=
  let b := { a with irqToNext := a.irqToNext - 1 }
  if b.irqToNext ≠ 0 then b else b.edge

/-- One timer capture of an axis (R131); with the timer off, nothing (R130). -/
def AxisState.tick (a : AxisState) : AxisState := if a.timerOn then a.countdown else a

/-- TICK (R131). No response is produced and `err` is not written. -/
def execTick (ax : Axis) (s : State) : Host.Outcome State Fault Refusal :=
  .next (s.setAxis ax (s.axis ax).tick).silent

end Sys2Proof.Machine
end

