-- ==== Sys2Proof/Machine/Dispatch.lean ====
section
/-! DEFINITION. The meaning of every instruction: one arm per constructor. -/

namespace Sys2Proof.Machine

open Sys2Proof

def exec (i : Instr) (s : State) : Host.Outcome State Fault Refusal :=
  match i with
  | .rd ax offset => Sys2Proof.Machine.execRd ax offset s
  | .tick ax => Sys2Proof.Machine.execTick ax s
  | .enable ax => Sys2Proof.Machine.execEnable ax s
  | .disable ax => Sys2Proof.Machine.execDisable ax s
  | .configure ax => Sys2Proof.Machine.execConfigure ax s
  | .slew ax => Sys2Proof.Machine.execSlew ax s
  | .goto ax => Sys2Proof.Machine.execGoto ax s
  | .start ax => Sys2Proof.Machine.execStart ax s
  | .stop ax => Sys2Proof.Machine.execStop ax s
  | .estop ax => Sys2Proof.Machine.execEstop ax s
  | .retarget ax v => Sys2Proof.Machine.execRetarget ax v s
  | .wrJval ax v => Sys2Proof.Machine.execWrJval ax v s
  | .wrTarget ax v => Sys2Proof.Machine.execWrTarget ax v s
  | .wrHval ax v => Sys2Proof.Machine.execWrHval ax v s
  | .wrMode ax g d e => Sys2Proof.Machine.execWrMode ax g d e s
  | .wrGotospeed ax v => Sys2Proof.Machine.execWrGotospeed ax v s
  | .wrSidereal ax v => Sys2Proof.Machine.execWrSidereal ax v s
  | .wrBval ax b => Sys2Proof.Machine.execWrBval ax b s
  | .wrAxcfg ax r => Sys2Proof.Machine.execWrAxcfg ax r s
  | .wrAccel ax index speed repeats => Sys2Proof.Machine.execWrAccel ax index speed repeats s
  | .wrGcfg ax m f h a => Sys2Proof.Machine.execWrGcfg ax m f h a s

end Sys2Proof.Machine
end

