-- ==== Sys2Proof/Machine/Deliver.lean ====
section
/-! DEFINITION. What the block does with one input: a transaction or TICK word (30_encoding.md R90, R91), or a reset
(70_reset_and_hazards.md R260, R261). -/

namespace Sys2Proof.Machine

open Sys2Proof

/-- A reserved word is answered ILLEGAL, sets `err` of the axis ADDR[7] to ILLEGAL and changes nothing else (R91,
R232). -/
def State.reserved (w : TWord) (s : State) : State := s.reject (Axis.ofBit w.axisBit) .illegal

/-- One word presented at the port: the decoded instruction, or the reserved word's answer. -/
def State.deliverWord (w : TWord) (s : State) : Host.Outcome State Fault Refusal :=
  match decode w with
  | .ok i => exec i s
  | .error _ => .next (s.reserved w)

/-- `reset(cfg)`: every field takes its reset value (R260); refused where `cfg` is not valid (R261). The inputs still
to come are not the block's and stay (log entry 6). -/
def State.applyReset (cfg : ResetConfig) (s : State) : Host.Outcome State Fault Refusal :=
  if resetConfigLegal Config.params cfg then .next (State.resetWith cfg s.ra.freeCount s.dc.freeCount s.input)
  else .refused .invalidResetConfig

/-- One input. -/
def State.deliver (i : Input) (s : State) : Host.Outcome State Fault Refusal :=
  match i with
  | .word w => s.deliverWord w
  | .reset cfg => s.applyReset cfg

end Sys2Proof.Machine
end

