-- ==== Sys2Proof/Machine/Step.lean ====
section
/-! DEFINITION. One step of the machine. -/

namespace Sys2Proof.Machine

open Sys2Proof

/-- One step consumes the first input still to come; with no input, no agent acts and nothing changes (00_scope.md R14,
20_memory.md R62; log entries 1 and 2). -/
def step (s : State) : Host.Outcome State Fault Refusal :=
  match s.input with
  | [] => .next s
  | i :: rest => { s with input := rest }.deliver i

/-- The word whose bits are `w` is the next input (log entries 1 and 11). -/
def State.withFetchWord (s : State) (nbits w : Nat) : State :=
  { s with input := .word (wordOfBits nbits w) :: s.input }

end Sys2Proof.Machine
end

