-- ==== Sys2Proof/Machine/HostContract.lean ====
section
/-! DEFINITION. The host's contract (45_host_protocol.md R200 to R222) as scripts of port transactions. "These rules
bind a host and do not describe block hardware" (00_scope.md R4 leaves the host's software out of the block), so nothing
here is used by `exec` or `step`; host state is no block state (10_state.md R59; log entry 10). -/

namespace Sys2Proof.Machine

open Sys2Proof

/-- A host program over the port: it issues a word and goes on with the response (60_exceptions.md R231), or ends with
a result. -/
inductive Script (α : Type) where
  | ret (a : α)
  | send (w : TWord) (k : Response → Script α)

/-- The state after one word. Every instruction and every reserved word leaves a next state (R230). -/
def State.transact (w : TWord) (s : State) : State :=
  match s.deliverWord w with
  | .next t => t
  | .fault _ => s
  | .refused _ => s

/-- TICKs of the given axes, in order. -/
def State.ticks (axes : List Axis) (s : State) : State :=
  axes.foldl (fun t ax => t.transact (encode (.tick ax))) s

/-- Runs a script; before each transaction the TICKs that `schedule` names occur, since "a sequence of several
transactions is not atomic against TICKs" (R200, 20_memory.md R68). -/
def Script.run {α : Type} : Script α → List (List Axis) → State → Option (α × State)
  | .ret a, _, s => some (a, s)
  | .send w k, schedule, s =>
    match ((s.ticks (schedule.headD [])).transact w).response with
    | some r => (k r).run schedule.tail ((s.ticks (schedule.headD [])).transact w)
    | none => none

/-- `RUN.<ax>` of 30_encoding.md R94 with a bound: TICKs until `timerOn = 0`, at most `fuel` of them ("It may not
end"). -/
def State.runTicks (ax : Axis) : Nat → State → State
  | 0, s => s
  | fuel + 1, s => if (s.axis ax).timerOn then State.runTicks ax fuel (s.transact (encode (.tick ax))) else s

/-- The deferral flag `readyToGo` of the Command Decoder: 0, 1, 2 (R202). -/
inductive ReadyToGo where
  | idle
  | armed
  | live
  deriving DecidableEq, Repr

/-- The host's own state, which is no block state (R202, R216, R220; 10_state.md R59). -/
structure HostState where
  /-- `readyToGo[RA]` (R202). -/
  readyToGoRa : ReadyToGo
  /-- `readyToGo[DC]` (R202). -/
  readyToGoDc : ReadyToGo
  /-- Programming mode (R220). -/
  programming : Bool
  /-- Booted with bad magic or an invalid configuration: "engine refuses to leave programming mode" (R220, D43). -/
  locked : Bool
  /-- The watchdog is armed; it cannot be cancelled (R216, D42). -/
  watchdog : Bool
  deriving DecidableEq, Repr

/-- The host at start: `readyToGo` is 0 (R202, D25), and programming mode is kept exactly where the EEPROM magic is bad or
the stored configuration is not valid (R220, D43). That a host with a valid configuration starts outside programming
mode: DESIGN CHOICE, log entry 18. -/
def HostState.boot (magicGood : Bool) (cfg : ResetConfig) : HostState :=
  let valid := magicGood && resetConfigLegal Config.params cfg
  { readyToGoRa := .idle, readyToGoDc := .idle, programming := !valid, locked := !valid, watchdog := false }

/-- `readyToGo[ax]`. -/
def HostState.readyToGo (h : HostState) : Axis → ReadyToGo
  | .ra => h.readyToGoRa
  | .dc => h.readyToGoDc

/-- `readyToGo[ax] <- r`. -/
def HostState.setReadyToGo (h : HostState) (ax : Axis) (r : ReadyToGo) : HostState :=
  match ax with
  | .ra => { h with readyToGoRa := r }
  | .dc => { h with readyToGoDc := r }

/-- Leaving programming mode, refused after a boot with bad magic or an invalid configuration (R220). No command for it
is given (N8). -/
def HostState.leaveProgramming (h : HostState) : HostState :=
  if h.locked then h else { h with programming := false }

/-- When an armed watchdog expires, reset is applied to the block with the stored configuration and the host boots again
(R216, D42); when that is, is time and not modelled (log entry 9). -/
def HostState.expire (h : HostState) (magicGood : Bool) (cfg : ResetConfig) : HostState × List Input :=
  if h.watchdog then (HostState.boot magicGood cfg, [.reset cfg]) else (h, [])

/-- The four bits that the axis status word is composed from (R205). How they are packed into digits is not given
(N4). -/
structure StatusWord where
  stopped : Bool
  gotoEn : Bool
  highSpeedMode : Bool
  dir : Bool
  deriving DecidableEq, Repr

/-- The composed word from a read of STATUS (R205; the places of the bits: 10_state.md R52). -/
def StatusWord.ofStatus (v : BitVec 32) : StatusWord :=
  { stopped := v.getLsbD 0, gotoEn := v.getLsbD 5, highSpeedMode := v.getLsbD 3, dir := v.getLsbD 4 }

/-- What the host answers to a command: success without or with a payload, the status word, the block's error code, or an
error of its own. The digits on the wire are not given (R201, N4, N5). -/
inductive Answer where
  | done
  | payload (v : Nat)
  | status (w : StatusWord)
  | blockError (c : Code)
  | hostError
  deriving DecidableEq, Repr

/-- The word of an RD of a register (R93). -/
def rdWord (ax : Axis) (r : Reg) : TWord := encode (.rd ax r.offset)

/-- Issues a transaction; "the expansion stops at the first error". -/
def issue {α : Type} (w : TWord) (onError : Code → α) (k : BitVec 32 → Script α) : Script α :=
  .send w fun r => if r.code = .ok then k r.data else .ret (onError r.code)

/-- The commands of R204 to R216. `e`, `a`, `s`, `g` issue no transaction and answer host constants that the source does
not give (R203, R204, N6, N7). -/
inductive SyntaCmd where
  | getB
  | getStatus
  | getJval
  | setJval (v : BitVec 24)
  | setMode (mode dirDigit : BitVec 4)
  | setHval (steps : BitVec 24)
  | setPeriod (period : BitVec 24)
  | arm
  | gracefulStop
  | emergencyStop
  | enableDriver
  | mcuReset
  deriving DecidableEq, Repr

/-- The commands the host refuses in programming mode (R220). -/
def SyntaCmd.isMotion : SyntaCmd → Bool
  | .getB => false
  | .getStatus => false
  | .getJval => false
  | .setJval _ => false
  | .setMode _ _ => true
  | .setHval _ => true
  | .setPeriod _ => true
  | .arm => true
  | .gracefulStop => true
  | .emergencyStop => true
  | .enableDriver => true
  | .mcuReset => false

/-- The `b` fudge factor in exact integer arithmetic (R222). -/
def bFudge (r i : Nat) : Nat := (r * (2 * i + 1)) / (2 * i)

/-- `p = max(period, RD ACCEL[5] & 0xFFFF)` (R210, R211). -/
def clampPeriod (period : BitVec 24) (accel5 : BitVec 32) : Nat := max period.toNat (accel5.extractLsb' 0 16).toNat

/-- The word of `WR TARGET.<ax>, p`, which the block answers RANGE if `p > 0xFFFE` (R210). DESIGN CHOICE (log entry 19):
a `p` above 16 bits is sent as 0xFFFF, since the block would ignore its upper bits. -/
def targetWord (ax : Axis) (p : Nat) : TWord := encode (.wrTarget ax (BitVec.ofNat 16 (min p 0xFFFF)))

/-- Issues a transaction of a command: a block error is the answer and leaves the host's state as it is. -/
def HostState.issue (h : HostState) (w : TWord) (k : BitVec 32 → Script (Answer × HostState)) :
    Script (Answer × HostState) :=
  Machine.issue w (fun c => (.blockError c, h)) k

/-- The expansion of one command on one axis (R204 to R216); the result is the answer and the host's state after. -/
def SyntaCmd.body (ax : Axis) (h : HostState) : SyntaCmd → Script (Answer × HostState)
  | .getB =>
    h.issue (rdWord ax .bval) fun r =>
      if h.programming then .ret (.payload r.toNat, h)
      else h.issue (rdWord ax .sidereal) fun i => .ret (.payload (bFudge r.toNat i.toNat), h)
  | .getStatus => h.issue (rdWord ax .status) fun v => .ret (.status (StatusWord.ofStatus v), h)
  | .getJval => h.issue (rdWord ax .jval) fun v => .ret (.payload v.toNat, h)
  | .setJval v => h.issue (encode (.wrJval ax v)) fun _ => .ret (.done, h)
  | .setMode mode dirDigit =>
    h.issue (rdWord ax .mode) fun m =>
      h.issue (encode (.wrMode ax mode (dirDigit != 0) (m.getLsbD 5))) fun _ =>
        .ret (.done, h.setReadyToGo ax .idle)
  | .setHval steps => h.issue (encode (.wrHval ax steps)) fun _ => .ret (.done, h)
  | .setPeriod period =>
    h.issue (rdWord ax (.accel 5)) fun e =>
      h.issue (targetWord ax (clampPeriod period e)) fun _ =>
        if h.readyToGo ax = .live then h.issue (encode (.start ax)) fun _ => .ret (.done, h)
        else .ret (.done, h)
  | .arm =>
    h.issue (rdWord ax .mode) fun m =>
      if m.getLsbD 0 then .ret (.done, h.setReadyToGo ax .armed)
      else h.issue (encode (.wrMode ax (m.extractLsb' 0 4) (m.getLsbD 4) true)) fun _ =>
        .ret (.done, h.setReadyToGo ax .armed)
  | .gracefulStop => h.issue (encode (.stop ax)) fun _ => .ret (.done, h)
  | .emergencyStop =>
    h.issue (encode (.estop ax)) fun _ => h.issue (encode (.disable ax)) fun _ => .ret (.done, h)
  | .enableDriver => h.issue (encode (.enable ax)) fun _ => .ret (.done, h)
  | .mcuReset => .ret (.done, { h with watchdog := true })

/-- The expansion a conforming host runs: in programming mode every motion command is answered with an error and no
block transaction is issued for it (R220). -/
def SyntaCmd.expand (ax : Axis) (h : HostState) (c : SyntaCmd) : Script (Answer × HostState) :=
  if h.programming && c.isMotion then .ret (.hostError, h) else c.body ax h

/-- The supervisor poll of one axis (R217). It ends with the host's state as it was where a transaction fails. DESIGN
CHOICE (log entry 18): the poll does not look at programming mode, of which R217 does not speak. -/
def supervisorPoll (ax : Axis) (h : HostState) : Script HostState :=
  if h.readyToGo ax = .armed then
    issue (rdWord ax .status) (fun _ => h) fun st =>
      if st.getLsbD 0 then
        issue (encode (.configure ax)) (fun _ => h) fun _ =>
          issue (rdWord ax .mode) (fun _ => h) fun m =>
            if m.getLsbD 0 then issue (encode (.slew ax)) (fun _ => h) fun _ => .ret (h.setReadyToGo ax .live)
            else issue (encode (.goto ax)) (fun _ => h) fun _ => .ret (h.setReadyToGo ax .idle)
      else .ret h
  else .ret h

/-- What the ST4 handler did to one axis (R218). -/
inductive St4Result where
  | inert
  | started
  | retargeted
  | forceStopped
  /-- The button reversed a running axis, which was stopped and has been started again (D32). -/
  | restarted
  /-- The button reversed a running axis, which was stopped and has not come to a halt within the polls made. -/
  | waiting
  | failed (c : Code)
  deriving DecidableEq, Repr

/-- "do nothing" while any axis has `gotoRunning` (R218, property 7). -/
def st4Guard (k : Script St4Result) : Script St4Result :=
  issue (rdWord .ra .status) .failed fun stRa =>
  issue (rdWord .dc .status) .failed fun stDc =>
    if stRa.getLsbD 1 || stDc.getLsbD 1 then .ret .inert else k

/-- "WR MODE (GVal, d, gotoEn unchanged); CONFIGURE; WR TARGET p; START" on a stopped axis (R218). -/
def st4Start (ax : Axis) (period : BitVec 16) (d : Bool) (result : St4Result) : Script St4Result :=
  issue (rdWord ax .mode) .failed fun m =>
  issue (encode (.wrMode ax (m.extractLsb' 0 4) d (m.getLsbD 5))) .failed fun _ =>
  issue (encode (.configure ax)) .failed fun _ =>
  issue (encode (.wrTarget ax period)) .failed fun _ =>
  issue (encode (.start ax)) .failed fun _ => .ret result

/-- "wait for `stopped`, and restart it" (R218, D32), with at most `polls` reads of STATUS. -/
def st4AwaitStop (ax : Axis) (period : BitVec 16) (d : Bool) : Nat → Script St4Result
  | 0 => .ret .waiting
  | polls + 1 =>
    issue (rdWord ax .status) .failed fun st =>
      if st.getLsbD 0 then st4Start ax period d .restarted else st4AwaitStop ax period d polls

/-- The ST4 handler's update of one axis (R218). A button that reverses a running axis makes the host stop it, wait and
restart it. DESIGN CHOICE (log entry 17): a running axis is reversed where the wanted direction differs from the commanded
direction `dir` read from MODE; the spec does not say whether `dir` or the sign of `stepDir` decides. -/
def st4Update (ax : Axis) (buttons : St4Buttons) (polls : Nat) : Script St4Result :=
  st4Guard <|
    issue (rdWord ax .sidereal) .failed fun i =>
    issue (rdWord ax .status) .failed fun st =>
      let pd := Config.st4Period ax buttons (i.extractLsb' 0 16)
      if st.getLsbD 0 then st4Start ax pd.1 pd.2 .started
      else
        issue (rdWord ax .mode) .failed fun m =>
          if pd.2 = m.getLsbD 4 then
            issue (encode (.retarget ax pd.1)) .failed fun _ => .ret .retargeted
          else issue (encode (.stop ax)) .failed fun _ => st4AwaitStop ax pd.1 pd.2 polls

/-- The DC force-stop of the ST4 handler is a STOP, behind the same guard (R218, D32). -/
def st4ForceStopDc : Script St4Result := st4Guard (issue (encode (.stop .dc)) .failed fun _ => .ret .forceStopped)

/-- The hand-controller line as the probe sees it, and the mode it elects (R219). -/
inductive ProbeLine where
  | floating
  | drivenLow
  | drivenHigh
  deriving DecidableEq, Repr

/-- The host modes of R219. -/
inductive HostMode where
  | eqmod
  | basicHC
  | advancedHC
  deriving DecidableEq, Repr

/-- "floating → EQMOD, driven low → basic HC, driven high → advanced HC" (R219). DESIGN CHOICE (log entry 16): the mapping is
the same whatever `allowAdvancedHC` is; how that flag gates the driven-high result is not in the source (N9). -/
def probeMode : ProbeLine → HostMode
  | .floating => .eqmod
  | .drivenLow => .basicHC
  | .drivenHigh => .advancedHC

/-- The transactions after an election (R219): standalone modes put both positions at mid-range; the basic mode then
starts sidereal tracking on RA. -/
def electionScript : HostMode → Script (Option Code)
  | .eqmod => .ret none
  | .advancedHC =>
    issue (encode (.wrJval .ra 0x800000)) some fun _ => issue (encode (.wrJval .dc 0x800000)) some fun _ => .ret none
  | .basicHC =>
    issue (encode (.wrJval .ra 0x800000)) some fun _ =>
    issue (encode (.wrJval .dc 0x800000)) some fun _ =>
    issue (encode (.wrMode .ra 1 false false)) some fun _ =>
    issue (encode (.configure .ra)) some fun _ =>
    issue (rdWord .ra .sidereal) some fun i =>
    issue (encode (.wrTarget .ra (i.extractLsb' 0 16))) some fun _ =>
    issue (encode (.slew .ra)) some fun _ => .ret none

/-- Entering programming mode, "only after ESTOP on both axes" (R220); with an error the host does not enter it. -/
def enterProgramming (h : HostState) : Script (Option Code × HostState) :=
  issue (encode (.estop .ra)) (fun c => (some c, h)) fun _ =>
  issue (encode (.estop .dc)) (fun c => (some c, h)) fun _ => .ret (none, { h with programming := true })

end Sys2Proof.Machine
end

