-- ==== Sys2Proof/Safety.lean ====
section
/-! DEFINITION. The terms statements are made in: the legal states (10_state.md R56 and the facts the spec derives), and
what a write or a TICK leaves as it was. -/

namespace Sys2Proof

/-- The bits of an instruction's word that the block does not ignore (R65, R83, R87). -/
def Instr.careMask : Instr → TWord
  | .rd _ _ => 0x3FF00000000
  | .tick _ => 0x3FFFFFFFFFF
  | .enable _ => 0x3FFFFFFFFFF
  | .disable _ => 0x3FFFFFFFFFF
  | .configure _ => 0x3FFFFFFFFFF
  | .slew _ => 0x3FFFFFFFFFF
  | .goto _ => 0x3FFFFFFFFFF
  | .start _ => 0x3FFFFFFFFFF
  | .stop _ => 0x3FFFFFFFFFF
  | .estop _ => 0x3FFFFFFFFFF
  | .retarget _ _ => 0x3FFFFFFFFFF
  | .wrJval _ _ => 0x3FF00FFFFFF
  | .wrTarget _ _ => 0x3FF0000FFFF
  | .wrHval _ _ => 0x3FF00FFFFFF
  | .wrMode _ _ _ _ => 0x3FF0000003F
  | .wrGotospeed _ _ => 0x3FF000000FF
  | .wrSidereal _ _ => 0x3FF0000FFFF
  | .wrBval _ _ => 0x3FF00FFFFFF
  | .wrAxcfg _ _ => 0x3FF00000001
  | .wrAccel _ _ _ _ => 0x3FF00FFFFFF
  | .wrGcfg _ _ _ _ _ => 0x3FF00003FFF

/-- The instruction writes `err` (R233): every write transaction does, RD and TICK do not. -/
def Instr.writesErr : Instr → Bool
  | .rd _ _ => false
  | .tick _ => false
  | .enable _ => true
  | .disable _ => true
  | .configure _ => true
  | .slew _ => true
  | .goto _ => true
  | .start _ => true
  | .stop _ => true
  | .estop _ => true
  | .retarget _ _ => true
  | .wrJval _ _ => true
  | .wrTarget _ _ => true
  | .wrHval _ _ => true
  | .wrMode _ _ _ _ => true
  | .wrGotospeed _ _ => true
  | .wrSidereal _ _ => true
  | .wrBval _ _ => true
  | .wrAxcfg _ _ => true
  | .wrAccel _ _ _ _ => true
  | .wrGcfg _ _ _ _ _ => true

/-- The result codes an instruction can end with (60_exceptions.md R235); the ILLEGAL of a malformed word is not the
instruction's. -/
def Instr.codes : Instr → List Machine.Code
  | .rd _ _ => [.ok, .illegal]
  | .tick _ => []
  | .enable _ => [.ok]
  | .disable _ => [.ok]
  | .configure _ => [.ok, .notStopped]
  | .slew _ => [.ok, .inconsistent]
  | .goto _ => [.ok, .notStopped, .inconsistent]
  | .start _ => [.ok, .inconsistent]
  | .stop _ => [.ok]
  | .estop _ => [.ok]
  | .retarget _ _ => [.ok, .range]
  | .wrJval _ _ => [.ok]
  | .wrTarget _ _ => [.ok, .range]
  | .wrHval _ _ => [.ok]
  | .wrMode _ _ _ _ => [.ok]
  | .wrGotospeed _ _ => [.ok, .busy, .range]
  | .wrSidereal _ _ => [.ok, .busy, .range]
  | .wrBval _ _ => [.ok, .busy, .range]
  | .wrAxcfg _ _ => [.ok, .busy]
  | .wrAccel _ _ _ _ => [.ok, .busy, .range]
  | .wrGcfg _ _ _ _ _ => [.ok, .busy, .range]

/-- A valid configuration record, check by check (70_reset_and_hazards.md R261). -/
structure ResetConfig.Valid (p : Params) (cfg : ResetConfig) : Prop where
  bVal : ∀ ax, 1 ≤ (cfg.axis ax).bVal.toNat
  sidereal : ∀ ax, p.minIval ≤ (cfg.axis ax).siderealIVal.toNat ∧ (cfg.axis ax).siderealIVal.toNat ≤ 1200
  gotoSpeed : ∀ ax, 1 ≤ (cfg.axis ax).normalGotoSpeed.toNat
  accel : ∀ ax, ∀ i : Fin 6,
    1 ≤ ((cfg.axis ax).accel[i.val]).speed.toNat ∧ ((cfg.axis ax).accel[i.val]).speed.toNat ≤ 0xFFFE
  microsteps : cfg.glob.microsteps.toNat ∈ [1, 2, 4, 8, 16, 32]
  family : cfg.glob.driverFamily = p.family498X ∨ cfg.glob.driverFamily ∈ p.otherFamilies
  limit498X : cfg.glob.driverFamily = p.family498X → cfg.glob.microsteps.toNat ≤ 16

end Sys2Proof

namespace Sys2Proof.Machine

open Sys2Proof

/-- A legal axis. Each field cites the rule that says the fact holds in every state of the block. -/
structure AxisState.Legal (a : AxisState) : Prop where
  /-- "`stopped = 1` if and only if `timerOn = 0`" (R30). -/
  timer : a.timerOn = !a.stopped
  /-- "`|stepDir| = 8` if and only if `highSpeedMode = 1`", values in {+1, -1, +8, -8} (R28). -/
  stepDir : if a.highSpeedMode then a.stepDir = 8 ∨ a.stepDir = -8 else a.stepDir = 1 ∨ a.stepDir = -1
  /-- "it equals `highSpeedMode`" (R45). -/
  modeSel : a.modeSel = a.highSpeedMode
  /-- ENABLE and DISABLE write the pin and the flag together (R44). -/
  enable : a.enablePin = !a.enabled
  /-- `stopSpeed` is at least 1 (R25; that rule's upper bound does not follow from the other rules, log entry 15). -/
  stopSpeed : 1 ≤ a.stopSpeed.toNat
  /-- The target is a legal speed, `stopSpeed + 1` or a free value of at least 1 (R23, log entry 15). -/
  targetSpeed : 1 ≤ a.targetSpeed.toNat
  /-- `currentSpeed ≥ 1` (R24). -/
  currentSpeed : 1 ≤ a.currentSpeed.toNat
  /-- "It is ≥ 1 whenever a TICK can occur" (R39). -/
  irqToNext : 1 ≤ a.irqToNext.toNat
  /-- "Its largest value is 3·255 + 2 = 767" (R37). -/
  dwell : a.accelRepeatsLeft.toNat ≤ 767
  /-- "Written speeds lie in [1, 0xFFFE]" (R48). -/
  accelSpeeds : ∀ i : Fin 6, 1 ≤ a.accel[i.val].speed.toNat ∧ a.accel[i.val].speed.toNat ≤ 0xFFFE
  /-- The rate table is the one built from `bVal` (R105). -/
  rate : a.rate = buildRate a.bVal
  /-- A divisor is at least 1 (R100, R261). -/
  bVal : a.bVal ≠ 0
  /-- "Every entry lies in [128, 65535]" (R47), so every loaded top does (R41). -/
  timerTop : 128 ≤ a.timerTop.toNat
  /-- A goto speed is at least 1 (R186, R261). -/
  gotoSpeed : a.normalGotoSpeed ≠ 0
  /-- The sidereal period lies in [1, 1200], whatever `MIN_IVAL` is (R187, D29). -/
  sidereal : 1 ≤ a.siderealIVal.toNat ∧ a.siderealIVal.toNat ≤ 1200
  /-- Result codes 6 to 15 are never produced (R232). -/
  err : a.err.toNat ≤ 5
  /-- "The maximum is ... 30728" (R116). -/
  decelLength : a.decelLength.toNat ≤ 30728
  /-- A goto runs only while the axis does (R31, R136, R160). -/
  gotoRuns : a.gotoRunning = true → a.stopped = false
  /-- While the axis runs the direction pin agrees with the count (R162, R272). -/
  dirPin : a.stopped = false → a.dirPin = (a.stepDir.slt 0 ^^ a.reverse)

/-- A legal state: both axes legal and a legal microstep count (R50). -/
structure State.Legal (s : State) : Prop where
  ra : s.ra.Legal
  dc : s.dc.Legal
  microsteps : microstepsLegal s.glob.microsteps = true

/-- The configuration passes the checks that depend on the open parameters (R187, R189). -/
structure State.ConfigLegal (p : Params) (s : State) : Prop where
  ra : siderealLegal p s.ra.siderealIVal = true
  dc : siderealLegal p s.dc.siderealIVal = true
  glob : gcfgLegal p s.glob.microsteps s.glob.driverFamily = true

/-- The per-axis configuration and the two tables, which only configuration writes and reset change (R70, R73). -/
def AxisState.config (a : AxisState) : AxisConfig × Vector (BitVec 16) 32 :=
  (⟨a.bVal, a.siderealIVal, a.normalGotoSpeed, a.reverse, a.accel⟩, a.rate)

/-- `n` TICKs of one axis and nothing else (30_encoding.md R94, `TICKS`). -/
def execTicks (ax : Axis) : Nat → State → Host.Outcome State Fault Refusal
  | 0, s => .next s
  | n + 1, s =>
    match exec (.tick ax) s with
    | .next t => execTicks ax n t
    | .fault r => .fault r
    | .refused r => .refused r

/-- What a write transaction on axis `ax` does from `s` to `t` when it leaves the axis at `a` and answers `c`: the frame
of every WR but WR.GCFG. The other axis, the global configuration and the inputs still to come are as before. -/
structure State.Wrote (s t : State) (ax : Axis) (a : AxisState) (c : Code) : Prop where
  axis : t.axis ax = a
  other : t.axis ax.other = s.axis ax.other
  glob : t.glob = s.glob
  input : t.input = s.input
  response : t.response = some ⟨c, 0⟩

/-- What a TICK of axis `ax` does when it leaves the axis at `a`: no response, and nothing else changes (R131). -/
structure State.Ticked (s t : State) (ax : Axis) (a : AxisState) : Prop where
  axis : t.axis ax = a
  other : t.axis ax.other = s.axis ax.other
  glob : t.glob = s.glob
  input : t.input = s.input
  response : t.response = none

end Sys2Proof.Machine
end

