-- ==== Sys2Proof/Certificates/Slice0/Obligations.lean ====
section
/-! DEFINITION. The statements for the provers. -/

open Sys2Proof Sys2Proof.Machine

/-! ### Encoding -/

/-- Decode and encode agree: every well-formed instruction is what its word decodes to (R80 to R93). -/
def Obligations.DecodeOfEncode : Prop :=
  ∀ i : Instr, i.wellFormed = true → decode (encode i) = .ok i

/-- A word that decodes to an instruction has that instruction's bits wherever the block does not ignore them, and any
word with those bits decodes to the same instruction: no bit that matters is dropped, no ignored bit is read (R65, R83,
R90). -/
def Obligations.EncodeOfDecode : Prop :=
  ∀ (w : TWord) (i : Instr), decode w = .ok i →
    i.wellFormed = true ∧ encode i &&& i.careMask = w &&& i.careMask ∧
      ∀ w' : TWord, w' &&& i.careMask = w &&& i.careMask → decode w' = .ok i

/-- The decoder agrees with the opcode table: a decoded word matches exactly the row of its mnemonic, a reserved word
matches no row (R90). -/
def Obligations.DecodeMatchesOpcodeTable : Prop :=
  ∀ w : TWord,
    (∀ i, decode w = .ok i → ∃ r ∈ opTable, r.mnemonic = i.mnemonic ∧
      ∀ r' ∈ opTable, r'.matchesWord w = true ↔ r' = r) ∧
    (∀ e, decode w = .error e → ∀ r ∈ opTable, r.matchesWord w = false)

/-- The reserved words are those of R91's list, and each is answered ILLEGAL, sets `err` of the axis ADDR[7] and changes
nothing else. -/
def Obligations.ReservedWords : Prop :=
  ∀ w : TWord,
    let off := w.offset.toNat
    let op := w.data.toNat % 16
    let reserved : Prop :=
      w.kind = 3 ∨ (w.kind = 2 ∧ (off ≠ 0 ∨ w.data ≠ 0)) ∨
      (w.kind = 1 ∧ off = 0 ∧ (op = 0 ∨ 9 < op ∨ w.data.toNat / 16 % 4096 ≠ 0 ∨
        (op ≠ 9 ∧ w.data.toNat / 65536 ≠ 0))) ∨
      (w.kind = 1 ∧ off ∉ [0x00, 0x03, 0x04, 0x09, 0x0A, 0x10, 0x11, 0x12, 0x13, 0x40, 0x41, 0x42, 0x43, 0x44, 0x45,
        0x46, 0x47, 0x70])
    ((∃ e, decode w = .error e) ↔ reserved) ∧
    ∀ (s : State) (rest : List Input), reserved → s.input = .word w :: rest →
      ∃ t, step s = .next t ∧
        State.Wrote { s with input := rest } t (Axis.ofBit w.axisBit)
          { s.axis (Axis.ofBit w.axisBit) with err := 1 } .illegal

/-- The worked encodings of R95, in both directions. -/
def Obligations.WorkedEncodings : Prop :=
  encode (.tick .dc) = 0x28000000000 ∧ decode 0x28000000000 = .ok (.tick .dc) ∧
  encode (.goto .dc) = 0x18000000005 ∧ decode 0x18000000005 = .ok (.goto .dc) ∧
  encode (.retarget .ra 300) = 0x100012C0009 ∧ decode 0x100012C0009 = .ok (.retarget .ra 300) ∧
  encode (.wrHval .dc 0x100) = 0x18900000100 ∧ decode 0x18900000100 = .ok (.wrHval .dc 0x100) ∧
  encode (.rd .ra 0x03) = 0x00300000000 ∧ decode 0x00300000000 = .ok (.rd .ra 0x03)

/-! ### The step, reset and the legal states -/

/-- A step runs the decoded instruction: with a word that decodes to `i` next, the step is `exec i` on the state with
that input consumed; a word placed for the fetch is that next word. -/
def Obligations.StepRunsDecoded : Prop :=
  (∀ (s : State) (w : TWord) (rest : List Input) (i : Instr), s.input = .word w :: rest → decode w = .ok i →
    step s = exec i { s with input := rest }) ∧
  (∀ (s : State) (nbits w : Nat) (i : Instr), decodeTableWord nbits w = some i →
    step (s.withFetchWord nbits w) = exec i s)

/-- The model's choices: with no input nothing changes (log entry 2); a reset leaves no response (log entry 5) and keeps
the inputs still to come (log entry 6). -/
def Obligations.IdleAndResetInput : Prop :=
  (∀ s : State, s.input = [] → step s = .next s) ∧
  ∀ (s : State) (cfg : ResetConfig) (rest : List Input), s.input = .reset cfg :: rest → cfg.Valid Config.params →
    ∃ t, step s = .next t ∧ t.response = none ∧ t.input = rest

/-- A reset with a valid `cfg` leaves every field of both axes and the global configuration at the value R58 gives; of the
model's own counter of free values nothing is said. -/
def Obligations.ResetValues : Prop :=
  ∀ (s : State) (cfg : ResetConfig) (rest : List Input), s.input = .reset cfg :: rest → cfg.Valid Config.params →
    ∃ t, step s = .next t ∧ t.glob = cfg.glob ∧
      ∀ ax, t.axis ax =
        { jVal := 0x800000
          targetSpeed := (cfg.axis ax).siderealIVal
          currentSpeed := (cfg.axis ax).siderealIVal
          stopSpeed := (cfg.axis ax).siderealIVal
          dir := false
          stepDir := 1
          highSpeedMode := false
          stopped := true
          gotoRunning := false
          gotoDecelerating := false
          gotoEn := false
          gotoTarget := 0
          decelLength := 0
          HVal := 0
          GVal := 1
          accelIndex := 0
          accelRepeatsLeft := 0
          distributionSegment := 0
          irqToNext := 1
          timerOn := false
          timerTop := (buildRate (cfg.axis ax).bVal)[0]
          stepPin := false
          dirPin := (cfg.axis ax).reverse
          enablePin := true
          enabled := false
          modeSel := false
          err := 0
          rate := buildRate (cfg.axis ax).bVal
          accel := (cfg.axis ax).accel
          bVal := (cfg.axis ax).bVal
          siderealIVal := (cfg.axis ax).siderealIVal
          normalGotoSpeed := (cfg.axis ax).normalGotoSpeed
          reverse := (cfg.axis ax).reverse
          freeCount := (t.axis ax).freeCount }

/-- A reset with a `cfg` that fails a check of R261 is refused. -/
def Obligations.ResetRefused : Prop :=
  ∀ (s : State) (cfg : ResetConfig) (rest : List Input), s.input = .reset cfg :: rest → ¬cfg.Valid Config.params →
    step s = .refused .invalidResetConfig

/-- Every step, from any legal state, leads to a legal state: the invariants of R56 and the ranges that the rules of
10_state.md derive hold in every state of the block. That a target the spec leaves open is at least 1 rests on the bound that log
entry 15 keeps. -/
def Obligations.StepKeepsLegal : Prop :=
  ∀ s t : State, s.Legal → step s = .next t → t.Legal

/-- The state after reset is legal. -/
def Obligations.ResetIsLegal : Prop := State.reset.Legal

/-- The state after a reset with any valid `cfg` is legal, and so are its parameter-dependent configuration values. -/
def Obligations.ValidResetIsLegal : Prop :=
  ∀ (cfg : ResetConfig) (m n : Nat) (input : List Input), cfg.Valid Config.params →
    (State.resetWith cfg m n input).Legal ∧ (State.resetWith cfg m n input).ConfigLegal Config.params

/-- Every step keeps the sidereal periods within [MIN_IVAL, 1200] and the family and microstep count legal, whatever the
open parameters are (R187, R189). -/
def Obligations.StepKeepsConfigLegal : Prop :=
  ∀ s t : State, s.ConfigLegal Config.params → step s = .next t → t.ConfigLegal Config.params

/-! ### The step engine -/

/-- A TICK of an axis whose timer is off changes nothing and produces no response (R130). -/
def Obligations.TickTimerOff : Prop :=
  ∀ (s : State) (ax : Axis), (s.axis ax).timerOn = false → exec (.tick ax) s = .next { s with response := none }

/-- A TICK that does not take the countdown to 0 only counts (R131 line a, R132). -/
def Obligations.TickCountdown : Prop :=
  ∀ (s : State) (ax : Axis), (s.axis ax).timerOn = true → (s.axis ax).irqToNext ≠ 1 →
    ∃ t, exec (.tick ax) s = .next t ∧
      State.Ticked s t ax { s.axis ax with irqToNext := (s.axis ax).irqToNext - 1 }

/-- A fall: slot advance, position, goto trigger and stop, and nothing else (R133 to R136). Where the trigger's
`stopSpeed + 1` does not fit 16 bits, the target is only said to be at least 1 (log entry 15). -/
def Obligations.TickFall : Prop :=
  ∀ (s : State) (ax : Axis), (s.axis ax).timerOn = true → (s.axis ax).irqToNext = 1 → (s.axis ax).stepPin = true →
    let a := s.axis ax
    let seg := a.distributionSegment + 1
    let j : BitVec 24 := BitVec.ofInt 24 (a.jVal.toNat + a.stepDir.toInt)
    let triggers : Bool := a.gotoRunning && !a.gotoDecelerating && j == a.gotoTarget
    let stops : Bool := decide (a.stopSpeed.toNat < a.currentSpeed.toNat)
    ∃ (t : State) (v : BitVec 16) (n : Nat), exec (.tick ax) s = .next t ∧
      State.Ticked s t ax
        { a with
          distributionSegment := seg
          timerTop := a.rate[seg.toNat]
          irqToNext := a.currentSpeed
          stepPin := false
          jVal := j
          gotoDecelerating := a.gotoDecelerating || triggers
          targetSpeed := v
          stopped := a.stopped || stops
          gotoRunning := a.gotoRunning && !stops
          timerOn := !stops
          freeCount := n } ∧
      (triggers = false → v = a.targetSpeed ∧ n = a.freeCount) ∧
      (triggers = true → 1 ≤ v.toNat) ∧
      (triggers = true → a.stopSpeed ≠ 0xFFFF → v.toNat = a.stopSpeed.toNat + 1 ∧ n = a.freeCount)

/-- A rise with dwell left raises the pin, advances the slot and counts the dwell (R133, R137). -/
def Obligations.TickDwell : Prop :=
  ∀ (s : State) (ax : Axis), (s.axis ax).timerOn = true → (s.axis ax).irqToNext = 1 → (s.axis ax).stepPin = false →
    (s.axis ax).accelRepeatsLeft ≠ 0 →
    let a := s.axis ax
    let seg := a.distributionSegment + 1
    ∃ t, exec (.tick ax) s = .next t ∧
      State.Ticked s t ax
        { a with
          distributionSegment := seg
          timerTop := a.rate[seg.toNat]
          irqToNext := a.currentSpeed
          stepPin := true
          accelRepeatsLeft := a.accelRepeatsLeft - 1 }

/-- A rise with no dwell left on an axis slower than its target walks one entry up the table, or snaps (R138). -/
def Obligations.TickAccelerate : Prop :=
  ∀ (s : State) (ax : Axis), (s.axis ax).timerOn = true → (s.axis ax).irqToNext = 1 → (s.axis ax).stepPin = false →
    (s.axis ax).accelRepeatsLeft = 0 → (s.axis ax).targetSpeed.toNat < (s.axis ax).currentSpeed.toNat →
    let a := s.axis ax
    let seg := a.distributionSegment + 1
    let b : AxisState :=
      { a with distributionSegment := seg, timerTop := a.rate[seg.toNat], irqToNext := a.currentSpeed, stepPin := true }
    ∃ t, exec (.tick ax) s = .next t ∧
      (a.accelIndex.val = 5 → State.Ticked s t ax { b with currentSpeed := a.targetSpeed }) ∧
      ∀ i : Fin 6, i.val = a.accelIndex.val + 1 →
        (a.accel[i.val].speed.toNat < a.targetSpeed.toNat →
          State.Ticked s t ax { b with accelIndex := i, currentSpeed := a.targetSpeed }) ∧
        (a.targetSpeed.toNat ≤ a.accel[i.val].speed.toNat →
          State.Ticked s t ax
            { b with
              accelIndex := i
              currentSpeed := a.accel[i.val].speed
              accelRepeatsLeft := BitVec.ofNat 16 (if a.highSpeedMode then 3 * a.accel[i.val].repeats.toNat + 2
                else a.accel[i.val].repeats.toNat) })

/-- A rise with no dwell left on an axis faster than its target walks one entry down the table, or snaps (R139). -/
def Obligations.TickDecelerate : Prop :=
  ∀ (s : State) (ax : Axis), (s.axis ax).timerOn = true → (s.axis ax).irqToNext = 1 → (s.axis ax).stepPin = false →
    (s.axis ax).accelRepeatsLeft = 0 → (s.axis ax).currentSpeed.toNat < (s.axis ax).targetSpeed.toNat →
    let a := s.axis ax
    let seg := a.distributionSegment + 1
    let b : AxisState :=
      { a with distributionSegment := seg, timerTop := a.rate[seg.toNat], irqToNext := a.currentSpeed, stepPin := true }
    ∃ t, exec (.tick ax) s = .next t ∧
      (a.accelIndex.val = 0 → State.Ticked s t ax { b with currentSpeed := a.targetSpeed }) ∧
      ∀ i : Fin 6, i.val + 1 = a.accelIndex.val →
        (a.targetSpeed.toNat < a.accel[i.val].speed.toNat →
          State.Ticked s t ax { b with accelIndex := i, currentSpeed := a.targetSpeed }) ∧
        (a.accel[i.val].speed.toNat ≤ a.targetSpeed.toNat →
          State.Ticked s t ax
            { b with
              accelIndex := i
              currentSpeed := a.accel[i.val].speed
              accelRepeatsLeft := BitVec.ofNat 16 (if a.highSpeedMode then 3 * a.accel[i.val].repeats.toNat + 2
                else a.accel[i.val].repeats.toNat) })

/-- A rise with no dwell left at the target speed raises the pin and advances the slot only (R140). -/
def Obligations.TickCruise : Prop :=
  ∀ (s : State) (ax : Axis), (s.axis ax).timerOn = true → (s.axis ax).irqToNext = 1 → (s.axis ax).stepPin = false →
    (s.axis ax).accelRepeatsLeft = 0 → (s.axis ax).currentSpeed = (s.axis ax).targetSpeed →
    let a := s.axis ax
    let seg := a.distributionSegment + 1
    ∃ t, exec (.tick ax) s = .next t ∧
      State.Ticked s t ax
        { a with
          distributionSegment := seg
          timerTop := a.rate[seg.toNat]
          irqToNext := a.currentSpeed
          stepPin := true }

/-- "a phase begun with `irqToNext = n` lasts `n` TICKs" (R132): any smaller number of TICKs only counts. -/
def Obligations.PhaseLength : Prop :=
  ∀ (s : State) (ax : Axis) (n : Nat), (s.axis ax).timerOn = true → 0 < n → n < (s.axis ax).irqToNext.toNat →
    ∃ t, execTicks ax n s = .next t ∧
      State.Ticked s t ax
        { s.axis ax with irqToNext := BitVec.ofNat 16 ((s.axis ax).irqToNext.toNat - n) }

/-- Steady motion (R141): with a constant `currentSpeed = c`, each step takes `2·c` TICKs and two slots of the rate
table, so after `2·c·n` TICKs the position has moved `n` steps and nothing else has changed, but that a TICK leaves no
response. A goto under way moves so too until the position meets its trigger. -/
def Obligations.SteadyMotion : Prop :=
  ∀ (s : State) (ax : Axis) (n : Nat),
    let a := s.axis ax
    a.timerOn = true → a.stepPin = false → a.irqToNext = a.currentSpeed → 0 < a.currentSpeed.toNat →
    a.currentSpeed = a.targetSpeed → a.currentSpeed.toNat ≤ a.stopSpeed.toNat → a.accelRepeatsLeft = 0 →
    (a.gotoRunning = false ∨ a.gotoDecelerating = true ∨
      ∀ k : Nat, 1 ≤ k → k ≤ n → BitVec.ofInt 24 (a.jVal.toNat + k * a.stepDir.toInt) ≠ a.gotoTarget) →
    ∃ t, execTicks ax (2 * a.currentSpeed.toNat * n) s = .next t ∧
      t.axis ax.other = s.axis ax.other ∧ t.glob = s.glob ∧ t.input = s.input ∧
      t.response = (if n = 0 then s.response else none) ∧
      t.axis ax =
        { a with
          jVal := BitVec.ofInt 24 (a.jVal.toNat + n * a.stepDir.toInt)
          distributionSegment := a.distributionSegment + BitVec.ofNat 5 (2 * n)
          timerTop := if n = 0 then a.timerTop else a.rate[(a.distributionSegment + BitVec.ofNat 5 (2 * n)).toNat] }

/-- A running axis whose target is slower than its stop threshold (after STOP, or after a goto's trigger) stops within a
bounded number of TICKs, whatever its table (R276 item 1). -/
def Obligations.DecelerationEnds : Prop :=
  ∀ (s : State) (ax : Axis), (s.axis ax).Legal → (s.axis ax).stopped = false →
    (s.axis ax).stopSpeed.toNat < (s.axis ax).targetSpeed.toNat →
    ∃ n ≤ 2 ^ 30, ∃ t, execTicks ax n s = .next t ∧ (t.axis ax).stopped = true ∧ (t.axis ax).timerOn = false

/-- The number of steps a deceleration takes (R118, R116): from cruise at entry `k` with no dwell left and the pin low,
one pulse and then `Rep(s, i) + 1` pulses for each entry below `k`, and the axis has stopped. -/
def Obligations.DecelerationDistance : Prop :=
  ∀ (s : State) (ax : Axis),
    let a := s.axis ax
    a.Legal → a.stopped = false → a.stepPin = false → a.accelRepeatsLeft = 0 →
    a.targetSpeed.toNat = a.stopSpeed.toNat + 1 → a.currentSpeed.toNat ≤ a.stopSpeed.toNat →
    (a.gotoRunning = false ∨ a.gotoDecelerating = true) →
    (∀ i : Fin 6, i < a.accelIndex → a.accel[i.val].speed.toNat ≤ a.stopSpeed.toNat) →
    ∃ n t, execTicks ax n s = .next t ∧ (t.axis ax).stopped = true ∧
      (t.axis ax).jVal = BitVec.ofInt 24 (a.jVal.toNat + a.stepDir.toInt *
        (1 + ∑ i : Fin 6 with i < a.accelIndex, ((a.rep i).toNat + 1) : Nat))

/-- A goto whose trigger fires at cruise lands exactly (R118): `s` is where GOTO was accepted, with its deceleration
length unclamped; `u` is any later state of the same goto right after the trigger's fall, cruising at the entry R115
gives. The axis stops at the start position plus or minus the masked distance. -/
def Obligations.GotoLandsExactly : Prop :=
  ∀ (s v u : State) (ax : Axis),
    let a := s.axis ax
    let b := u.axis ax
    let hv : Nat := if a.highSpeedMode then a.HVal.toNat / 8 * 8 else a.HVal.toNat
    a.Legal → a.stopped = true → a.dirConsistent = true →
    a.mag * a.decelSteps ≤ hv / 2 / a.mag * a.mag →
    exec (.goto ax) s = .next v →
    b.Legal → b.gotoTarget = (v.axis ax).gotoTarget → b.stepDir = a.stepDir → b.highSpeedMode = a.highSpeedMode →
    b.accel = a.accel → b.normalGotoSpeed = a.normalGotoSpeed →
    b.stopped = false → b.gotoRunning = true → b.gotoDecelerating = true → b.jVal = b.gotoTarget →
    b.stepPin = false → b.accelRepeatsLeft = 0 → b.targetSpeed.toNat = b.stopSpeed.toNat + 1 →
    b.currentSpeed.toNat ≤ b.stopSpeed.toNat →
    b.accelIndex = b.cruiseIndex (b.normalGotoSpeed.setWidth 16) →
    (∀ i : Fin 6, i < b.accelIndex → b.accel[i.val].speed.toNat ≤ b.stopSpeed.toNat) →
    ∃ n t, execTicks ax n u = .next t ∧ (t.axis ax).stopped = true ∧
      (t.axis ax).jVal = BitVec.ofInt 24 (a.jVal.toNat + (if a.dir then -(hv : Int) else hv))

/-! ### Motor control -/

/-- ENABLE and DISABLE write the pin and the flag, on a running axis too (R151, R152). -/
def Obligations.EnableDisable : Prop :=
  ∀ (s : State) (ax : Axis),
    (∃ t, exec (.enable ax) s = .next t ∧
      State.Wrote s t ax { s.axis ax with enablePin := false, enabled := true, err := 0 } .ok) ∧
    (∃ t, exec (.disable ax) s = .next t ∧
      State.Wrote s t ax { s.axis ax with enablePin := true, enabled := false, err := 0 } .ok)

/-- CONFIGURE on a stopped axis sets the mode, the mode pins' selection and the signed step from `GVal`, `dir` and the
high-speed permission; on a running axis it is refused with NOT_STOPPED (R153). -/
def Obligations.Configure : Prop :=
  ∀ (s : State) (ax : Axis),
    let hs : Bool := decide (2 < (s.axis ax).GVal.toNat) && s.glob.allowHighSpeed
    let mag : Int := if hs then 8 else 1
    ((s.axis ax).stopped = true → ∃ t, exec (.configure ax) s = .next t ∧
      State.Wrote s t ax
        { s.axis ax with
          highSpeedMode := hs
          modeSel := hs
          stepDir := BitVec.ofInt 8 (if (s.axis ax).dir then -mag else mag)
          err := 0 } .ok) ∧
    ((s.axis ax).stopped = false → ∃ t, exec (.configure ax) s = .next t ∧
      State.Wrote s t ax { s.axis ax with err := 2 } .notStopped)

/-- The start procedure (R154): the threshold is `max(targetSpeed, minSpeed)`; a stopped axis starts there with fresh
cursors; a running axis keeps its speed where that is faster than `minSpeed`, and its cursors always. -/
def Obligations.StartProcedure : Prop :=
  ∀ a : AxisState,
    let stop : BitVec 16 := if a.targetSpeed.toNat < a.accel[0].speed.toNat then a.accel[0].speed else a.targetSpeed
    (a.stopped = true → a.startMotion =
      { a with
        stopSpeed := stop
        currentSpeed := stop
        dirPin := a.dir ^^ a.reverse
        accelIndex := 0
        accelRepeatsLeft := BitVec.ofNat 16 (if a.highSpeedMode then 3 * a.accel[0].repeats.toNat + 2
          else a.accel[0].repeats.toNat)
        distributionSegment := 0
        irqToNext := 1
        timerTop := a.rate[0]
        stopped := false
        timerOn := true }) ∧
    (a.stopped = false → a.currentSpeed.toNat < a.accel[0].speed.toNat → a.startMotion =
      { a with stopSpeed := stop, dirPin := a.dir ^^ a.reverse }) ∧
    (a.stopped = false → a.accel[0].speed.toNat ≤ a.currentSpeed.toNat → a.startMotion =
      { a with stopSpeed := stop, currentSpeed := stop, dirPin := a.dir ^^ a.reverse })

/-- START and SLEW run the start procedure on an axis whose `dir` agrees with the sign of `stepDir`; SLEW clears the
goto state first (R155, R156). -/
def Obligations.StartAndSlew : Prop :=
  ∀ (s : State) (ax : Axis), ((s.axis ax).stepDir.toInt < 0 ↔ (s.axis ax).dir = true) →
    (∃ t, exec (.start ax) s = .next t ∧ State.Wrote s t ax { (s.axis ax).startMotion with err := 0 } .ok) ∧
    (∃ t, exec (.slew ax) s = .next t ∧
      State.Wrote s t ax
        { AxisState.startMotion { s.axis ax with gotoRunning := false, gotoDecelerating := false } with err := 0 } .ok)

/-- GOTO on a stopped, consistent axis plans the trigger position from the masked distance and the clamped deceleration
length, and starts toward the goto speed (R157, R158). -/
def Obligations.Goto : Prop :=
  ∀ (s : State) (ax : Axis),
    let a := s.axis ax
    let mag : Nat := a.stepDir.toInt.natAbs
    let hv : Nat := if a.highSpeedMode then a.HVal.toNat / 8 * 8 else a.HVal.toNat
    let dl : Nat := min (mag * a.decelSteps) (hv / 2 / mag * mag)
    let sgn : Int := if a.dir then -1 else 1
    a.stopped = true → (a.stepDir.toInt < 0 ↔ a.dir = true) →
    ∃ t, exec (.goto ax) s = .next t ∧
      State.Wrote s t ax
        { AxisState.startMotion
            { a with
              gotoTarget := BitVec.ofInt 24 (a.jVal.toNat + sgn * (hv - dl))
              decelLength := BitVec.ofNat 24 dl
              targetSpeed := BitVec.ofNat 16 a.normalGotoSpeed.toNat
              gotoDecelerating := false
              gotoRunning := true } with err := 0 } .ok

/-- The deceleration length (R115, R116): the cruise index is the least entry as fast as the goto speed, or 5; the steps
are one and `Rep(s, i) + 1` for each entry below it. -/
def Obligations.DecelSteps : Prop :=
  ∀ (a : AxisState) (g : BitVec 16),
    let k := a.cruiseIndex g
    (a.accel[k.val].speed.toNat ≤ g.toNat ∨ k = 5) ∧
    (∀ i : Fin 6, i < k → g.toNat < a.accel[i.val].speed.toNat) ∧
    a.decelSteps = 1 + ∑ i : Fin 6 with i < a.cruiseIndex (a.normalGotoSpeed.setWidth 16), ((a.rep i).toNat + 1) ∧
    ∀ i : Fin 6, (a.rep i).toNat =
      if a.highSpeedMode then 3 * a.accel[i.val].repeats.toNat + 2 else a.accel[i.val].repeats.toNat

/-- The refusals of the start operations change only `err`: INCONSISTENT where `dir` disagrees with `stepDir` (R162), but
GOTO on a running axis is NOT_STOPPED even then (R234). -/
def Obligations.StartRefusals : Prop :=
  ∀ (s : State) (ax : Axis),
    (¬((s.axis ax).stepDir.toInt < 0 ↔ (s.axis ax).dir = true) →
      (∃ t, exec (.start ax) s = .next t ∧ State.Wrote s t ax { s.axis ax with err := 5 } .inconsistent) ∧
      (∃ t, exec (.slew ax) s = .next t ∧ State.Wrote s t ax { s.axis ax with err := 5 } .inconsistent) ∧
      ((s.axis ax).stopped = true →
        ∃ t, exec (.goto ax) s = .next t ∧ State.Wrote s t ax { s.axis ax with err := 5 } .inconsistent)) ∧
    ((s.axis ax).stopped = false →
      ∃ t, exec (.goto ax) s = .next t ∧ State.Wrote s t ax { s.axis ax with err := 2 } .notStopped)

/-- STOP raises the target above the threshold and clears the goto flags; the timer runs on (R159). Where
`stopSpeed + 1` does not fit 16 bits, the target is only said to be at least 1 (log entry 15). -/
def Obligations.Stop : Prop :=
  ∀ (s : State) (ax : Axis), ∃ (t : State) (v : BitVec 16) (n : Nat), exec (.stop ax) s = .next t ∧
    State.Wrote s t ax
      { s.axis ax with
        targetSpeed := v
        gotoRunning := false
        gotoEn := false
        GVal := 1
        err := 0
        freeCount := n } .ok ∧
    1 ≤ v.toNat ∧
    ((s.axis ax).stopSpeed ≠ 0xFFFF → v.toNat = (s.axis ax).stopSpeed.toNat + 1 ∧ n = (s.axis ax).freeCount)

/-- ESTOP turns the timer off at once and clears all goto state; pins, speeds, position and cursors stay (R160). -/
def Obligations.Estop : Prop :=
  ∀ (s : State) (ax : Axis), ∃ t, exec (.estop ax) s = .next t ∧
    State.Wrote s t ax
      { s.axis ax with
        timerOn := false
        stopped := true
        gotoRunning := false
        gotoDecelerating := false
        gotoEn := false
        GVal := 1
        err := 0 } .ok

/-- RETARGET writes the target and raises the threshold in one step; a period outside [1, 0xFFFE] is RANGE (R161). -/
def Obligations.Retarget : Prop :=
  ∀ (s : State) (ax : Axis) (v : BitVec 16),
    (1 ≤ v.toNat → v.toNat ≤ 0xFFFE → ∃ t, exec (.retarget ax v) s = .next t ∧
      State.Wrote s t ax
        { s.axis ax with
          targetSpeed := v
          stopSpeed := BitVec.ofNat 16 (max (s.axis ax).stopSpeed.toNat v.toNat)
          err := 0 } .ok) ∧
    (v = 0 ∨ v = 0xFFFF → ∃ t, exec (.retarget ax v) s = .next t ∧
      State.Wrote s t ax { s.axis ax with err := 3 } .range)

/-! ### Register access -/

/-- RD of each register with one field answers the field zero-extended and changes no state (R180). -/
def Obligations.RdPlain : Prop :=
  ∀ (s : State) (ax : Axis),
    let a := s.axis ax
    let reads (off : BitVec 7) (v : Nat) : Prop :=
      exec (.rd ax off) s = .next { s with response := some ⟨.ok, BitVec.ofNat 32 v⟩ }
    reads 0x02 a.err.toNat ∧ reads 0x03 a.jVal.toNat ∧ reads 0x04 a.targetSpeed.toNat ∧
    reads 0x05 a.currentSpeed.toNat ∧ reads 0x06 a.stopSpeed.toNat ∧ reads 0x07 a.accel[0].speed.toNat ∧
    reads 0x08 a.gotoTarget.toNat ∧ reads 0x09 a.HVal.toNat ∧ reads 0x0E a.timerTop.toNat ∧
    reads 0x10 a.normalGotoSpeed.toNat ∧ reads 0x11 a.siderealIVal.toNat ∧ reads 0x12 a.bVal.toNat ∧
    reads 0x13 a.reverse.toNat ∧ reads 0x14 a.decelLength.toNat ∧
    (∀ i : Fin 32, reads (BitVec.ofNat 7 (0x20 + i.val)) a.rate[i.val].toNat)

/-- RD of each packed register answers its fields at the places R52 to R55 and R51 give, and changes no state; GCFG is one
register for both axes (R180). -/
def Obligations.RdPacked : Prop :=
  ∀ (s : State) (ax : Axis),
    let a := s.axis ax
    let reads (off : BitVec 7) (v : Nat) : Prop :=
      exec (.rd ax off) s = .next { s with response := some ⟨.ok, BitVec.ofNat 32 v⟩ }
    reads 0x01 (a.stopped.toNat + 2 * a.gotoRunning.toNat + 4 * a.gotoDecelerating.toNat +
      8 * a.highSpeedMode.toNat + 16 * a.dir.toNat + 32 * a.gotoEn.toNat + 64 * a.enabled.toNat +
      128 * a.timerOn.toNat) ∧
    reads 0x0A (a.GVal.toNat + 16 * a.dir.toNat + 32 * a.gotoEn.toNat) ∧
    exec (.rd ax 0x0B) s = .next { s with response := some ⟨.ok, BitVec.ofInt 32 a.stepDir.toInt⟩ } ∧
    reads 0x0C (65536 * a.accelRepeatsLeft.toNat + a.accelIndex.val) ∧
    reads 0x0D (65536 * a.irqToNext.toNat + a.distributionSegment.toNat) ∧
    reads 0x0F (a.stepPin.toNat + 2 * a.dirPin.toNat + 4 * a.enablePin.toNat + 8 * a.modeSel.toNat +
      16 * a.timerOn.toNat) ∧
    (∀ i : Fin 6, reads (BitVec.ofNat 7 (0x40 + i.val))
      (65536 * a.accel[i.val].repeats.toNat + a.accel[i.val].speed.toNat)) ∧
    reads 0x70 (s.glob.microsteps.toNat + 256 * s.glob.driverFamily.toNat + 4096 * s.glob.allowHighSpeed.toNat +
      8192 * s.glob.allowAdvancedHC.toNat)

/-- RD of CMD, of an unmapped offset and of 0x46 and 0x47 answers ILLEGAL with data 0 and changes no state, not even
`err` (R72, R180). -/
def Obligations.RdIllegal : Prop :=
  ∀ (s : State) (ax : Axis) (off : BitVec 7),
    (off.toNat = 0 ∨ (0x15 ≤ off.toNat ∧ off.toNat ≤ 0x1F) ∨ (0x46 ≤ off.toNat ∧ off.toNat ≤ 0x6F) ∨
      0x71 ≤ off.toNat) →
    exec (.rd ax off) s = .next { s with response := some ⟨.illegal, 0⟩ }

/-- A register reads within its width (R51, R65). -/
def Obligations.ReadWidth : Prop :=
  ∀ (s : State) (ax : Axis) (r : Reg), (s.readReg ax r).toNat < 2 ^ r.width

/-- The writes to motion registers, each on any axis, running or not (R182 to R185). -/
def Obligations.WrMotion : Prop :=
  ∀ (s : State) (ax : Axis),
    (∀ v, ∃ t, exec (.wrJval ax v) s = .next t ∧ State.Wrote s t ax { s.axis ax with jVal := v, err := 0 } .ok) ∧
    (∀ v, ∃ t, exec (.wrHval ax v) s = .next t ∧ State.Wrote s t ax { s.axis ax with HVal := v, err := 0 } .ok) ∧
    (∀ g d e, ∃ t, exec (.wrMode ax g d e) s = .next t ∧
      State.Wrote s t ax { s.axis ax with GVal := g, dir := d, gotoEn := e, err := 0 } .ok) ∧
    (∀ v : BitVec 16, 1 ≤ v.toNat → v.toNat ≤ 0xFFFE → ∃ t, exec (.wrTarget ax v) s = .next t ∧
      State.Wrote s t ax { s.axis ax with targetSpeed := v, err := 0 } .ok) ∧
    (∀ v : BitVec 16, v = 0 ∨ v = 0xFFFF → ∃ t, exec (.wrTarget ax v) s = .next t ∧
      State.Wrote s t ax { s.axis ax with err := 3 } .range)

/-- The per-axis configuration writes with both axes stopped and a legal value (R100, R111, R186 to R188). -/
def Obligations.WrConfig : Prop :=
  ∀ (s : State) (ax : Axis), s.ra.stopped = true → s.dc.stopped = true →
    (∀ v : BitVec 8, 1 ≤ v.toNat → ∃ t, exec (.wrGotospeed ax v) s = .next t ∧
      State.Wrote s t ax { s.axis ax with normalGotoSpeed := v, err := 0 } .ok) ∧
    (∀ v : BitVec 16, Config.params.minIval ≤ v.toNat → v.toNat ≤ 1200 → ∃ t, exec (.wrSidereal ax v) s = .next t ∧
      State.Wrote s t ax { s.axis ax with siderealIVal := v, err := 0 } .ok) ∧
    (∀ b : BitVec 24, 1 ≤ b.toNat → ∃ t, exec (.wrBval ax b) s = .next t ∧
      State.Wrote s t ax { s.axis ax with bVal := b, rate := buildRate b, err := 0 } .ok) ∧
    (∀ r, ∃ t, exec (.wrAxcfg ax r) s = .next t ∧
      State.Wrote s t ax { s.axis ax with reverse := r, err := 0 } .ok) ∧
    (∀ (i : Fin 6) (sp : BitVec 16) (r : BitVec 8), 1 ≤ sp.toNat → sp.toNat ≤ 0xFFFE →
      ∃ t, exec (.wrAccel ax i.val sp r) s = .next t ∧
        State.Wrote s t ax { s.axis ax with accel := (s.axis ax).accel.set i.val ⟨sp, r⟩, err := 0 } .ok)

/-- WR.GCFG with both axes stopped and a legal family and count writes the one global configuration and sets `err` of
the axis ADDR[7] only (R189, R55). -/
def Obligations.WrGcfg : Prop :=
  ∀ (s : State) (ax : Axis) (m : BitVec 8) (f : BitVec 4) (h a : Bool),
    s.ra.stopped = true → s.dc.stopped = true →
    m.toNat ∈ [1, 2, 4, 8, 16, 32] → (f = Config.family498X ∨ f ∈ Config.otherFamilies) →
    (f = Config.family498X → m.toNat ≤ 16) →
    ∃ t, exec (.wrGcfg ax m f h a) s = .next t ∧
      t.glob = { microsteps := m, driverFamily := f, allowHighSpeed := h, allowAdvancedHC := a } ∧
      t.axis ax = { s.axis ax with err := 0 } ∧ t.axis ax.other = s.axis ax.other ∧ t.input = s.input ∧
      t.response = some ⟨.ok, 0⟩

/-- The configuration writes with both axes stopped and an illegal value are refused with RANGE (R100, R111, R186, R187,
R189). -/
def Obligations.WrConfigRange : Prop :=
  ∀ (s : State) (ax : Axis) (i : Instr), s.ra.stopped = true → s.dc.stopped = true →
    (i = .wrGotospeed ax 0 ∨
     (∃ v : BitVec 16, (v.toNat < Config.params.minIval ∨ 1200 < v.toNat) ∧ i = .wrSidereal ax v) ∨
     i = .wrBval ax 0 ∨
     (∃ (n : Nat) (sp : BitVec 16) (r : BitVec 8), (5 < n ∨ sp = 0 ∨ sp = 0xFFFF) ∧ i = .wrAccel ax n sp r) ∨
     (∃ (m : BitVec 8) (f : BitVec 4) (h a : Bool),
       (m.toNat ∉ [1, 2, 4, 8, 16, 32] ∨ (f ≠ Config.family498X ∧ f ∉ Config.otherFamilies) ∨
         (f = Config.family498X ∧ 16 < m.toNat)) ∧ i = .wrGcfg ax m f h a)) →
    ∃ t, exec i s = .next t ∧ State.Wrote s t ax { s.axis ax with err := 3 } .range

/-- A configuration write while either axis runs is refused with BUSY whatever its value, and changes only `err` (R191,
R73, R234). -/
def Obligations.ConfigBusy : Prop :=
  ∀ (s : State) (ax : Axis) (i : Instr), (s.ra.stopped = false ∨ s.dc.stopped = false) →
    ((∃ v, i = .wrGotospeed ax v) ∨ (∃ v, i = .wrSidereal ax v) ∨ (∃ b, i = .wrBval ax b) ∨ (∃ r, i = .wrAxcfg ax r) ∨
      (∃ n sp r, i = .wrAccel ax n sp r) ∨ (∃ m f h a, i = .wrGcfg ax m f h a)) →
    ∃ t, exec i s = .next t ∧ State.Wrote s t ax { s.axis ax with err := 4 } .busy

/-- The host reads its own writes (R63): an accepted write of a register is what the next RD of it answers; MINSPEED
follows entry 0 of the accel table in the same step (R112), and both axes read the GCFG written (R55). -/
def Obligations.ReadsOwnWrites : Prop :=
  ∀ (s t : State) (ax : Axis) (i : Instr), exec i s = .next t → t.response = some ⟨.ok, 0⟩ →
    (∀ v, i = .wrJval ax v → t.read ax 0x03 = some (v.setWidth 32)) ∧
    (∀ v, i = .wrTarget ax v → t.read ax 0x04 = some (v.setWidth 32)) ∧
    (∀ v, i = .wrHval ax v → t.read ax 0x09 = some (v.setWidth 32)) ∧
    (∀ v, i = .wrGotospeed ax v → t.read ax 0x10 = some (v.setWidth 32)) ∧
    (∀ v, i = .wrSidereal ax v → t.read ax 0x11 = some (v.setWidth 32)) ∧
    (∀ b, i = .wrBval ax b → t.read ax 0x12 = some (b.setWidth 32)) ∧
    (∀ g d e, i = .wrMode ax g d e →
      t.read ax 0x0A = some (BitVec.ofNat 32 (g.toNat + 16 * d.toNat + 32 * e.toNat))) ∧
    (∀ r, i = .wrAxcfg ax r → t.read ax 0x13 = some (BitVec.ofNat 32 r.toNat)) ∧
    (∀ n sp r, i = .wrAccel ax n sp r →
      t.read ax (BitVec.ofNat 7 (0x40 + n)) = some (BitVec.ofNat 32 (65536 * r.toNat + sp.toNat))) ∧
    (∀ sp r, i = .wrAccel ax 0 sp r → t.read ax 0x07 = some (sp.setWidth 32)) ∧
    (∀ m f h a, i = .wrGcfg ax m f h a → ∀ b : Axis,
      t.read b 0x70 = some (BitVec.ofNat 32 (m.toNat + 256 * f.toNat + 4096 * h.toNat + 8192 * a.toNat)))

/-- Writing the same value twice is writing it once (R65). -/
def Obligations.WritesIdempotent : Prop :=
  ∀ (s : State) (i : Instr),
    ((∃ ax v, i = .wrJval ax v) ∨ (∃ ax v, i = .wrTarget ax v) ∨ (∃ ax v, i = .wrHval ax v) ∨
      (∃ ax g d e, i = .wrMode ax g d e) ∨ (∃ ax v, i = .wrGotospeed ax v) ∨ (∃ ax v, i = .wrSidereal ax v) ∨
      (∃ ax b, i = .wrBval ax b) ∨ (∃ ax r, i = .wrAxcfg ax r) ∨ (∃ ax n sp r, i = .wrAccel ax n sp r) ∨
      (∃ ax m f h a, i = .wrGcfg ax m f h a)) →
    ∃ t, exec i s = .next t ∧ exec i t = .next t

/-! ### Whole-machine rules -/

/-- `err` holds the last code (R233): a write transaction leaves its code in `err` of its axis and answers data 0, RD and
TICK leave `err` alone, and no instruction touches the other axis's. -/
def Obligations.ErrHoldsLastCode : Prop :=
  ∀ (i : Instr) (s : State), ∃ t, exec i s = .next t ∧
    (t.axis i.axis.other).err = (s.axis i.axis.other).err ∧
    (i.writesErr = true → ∃ c, t.response = some ⟨c, 0⟩ ∧ (t.axis i.axis).err = c.bits) ∧
    (i.writesErr = false → (t.axis i.axis).err = (s.axis i.axis).err)

/-- A rejected transaction changes nothing but `err`, and RD not even that (R233, R241). -/
def Obligations.RejectedChangesOnlyErr : Prop :=
  ∀ (i : Instr) (s t : State) (r : Response), exec i s = .next t → t.response = some r → r.code ≠ .ok →
    r.data = 0 ∧ t.glob = s.glob ∧ t.axis i.axis.other = s.axis i.axis.other ∧ t.input = s.input ∧
    t.axis i.axis = if i.writesErr then { s.axis i.axis with err := r.code.bits } else s.axis i.axis

/-- Each instruction ends only with the codes of R235's table; a TICK has no response. -/
def Obligations.CodesPerInstruction : Prop :=
  ∀ (i : Instr) (s : State), ∃ t, exec i s = .next t ∧
    (i.codes = [] → t.response = none) ∧ (i.codes ≠ [] → ∃ r, t.response = some r ∧ r.code ∈ i.codes)

/-- The axes are independent (R67): no instruction changes the other axis, only WR.GCFG the global configuration; and
what an instruction does to its axis and answers depends on nothing of the other axis but its `stopped` bit. -/
def Obligations.AxesIndependent : Prop :=
  (∀ (i : Instr) (s t : State), exec i s = .next t →
    t.axis i.axis.other = s.axis i.axis.other ∧ ((∀ ax m f h a, i ≠ .wrGcfg ax m f h a) → t.glob = s.glob)) ∧
  (∀ (i : Instr) (s s' t t' : State), s.axis i.axis = s'.axis i.axis → s.glob = s'.glob →
    (s.axis i.axis.other).stopped = (s'.axis i.axis.other).stopped → exec i s = .next t → exec i s' = .next t' →
    t.axis i.axis = t'.axis i.axis ∧ t.glob = t'.glob ∧ t.response = t'.response)

/-- The two axes' TICKs commute (R240). -/
def Obligations.TicksCommute : Prop :=
  ∀ s : State, ∃ u v t, exec (.tick .ra) s = .next u ∧ exec (.tick .dc) u = .next t ∧
    exec (.tick .dc) s = .next v ∧ exec (.tick .ra) v = .next t

/-- Only a fall and WR.JVAL change `jVal` (R22, R134). -/
def Obligations.JValWriters : Prop :=
  ∀ (i : Instr) (s t : State) (ax : Axis), exec i s = .next t → (t.axis ax).jVal ≠ (s.axis ax).jVal →
    (∃ v, i = .wrJval ax v) ∨
    (i = .tick ax ∧ (s.axis ax).stepPin = true ∧ (t.axis ax).stepPin = false ∧
      (t.axis ax).jVal = BitVec.ofInt 24 ((s.axis ax).jVal.toNat + (s.axis ax).stepDir.toInt))

/-- The fields with one writer: `stepDir`, `highSpeedMode` and `modeSel` only CONFIGURE (R28, R29, R45), `gotoTarget` and
`decelLength` only GOTO (R33, R34), the driver-enable pin only ENABLE and DISABLE (R44), the step pin only a TICK
(R42). -/
def Obligations.SingleWriters : Prop :=
  ∀ (i : Instr) (s t : State) (ax : Axis), exec i s = .next t →
    (i ≠ .configure ax → (t.axis ax).stepDir = (s.axis ax).stepDir ∧
      (t.axis ax).highSpeedMode = (s.axis ax).highSpeedMode ∧ (t.axis ax).modeSel = (s.axis ax).modeSel) ∧
    (i ≠ .goto ax → (t.axis ax).gotoTarget = (s.axis ax).gotoTarget ∧
      (t.axis ax).decelLength = (s.axis ax).decelLength) ∧
    (i ≠ .enable ax → i ≠ .disable ax → (t.axis ax).enablePin = (s.axis ax).enablePin ∧
      (t.axis ax).enabled = (s.axis ax).enabled) ∧
    (i ≠ .tick ax → (t.axis ax).stepPin = (s.axis ax).stepPin)

/-- While either axis runs, no instruction changes a table or a configuration value of either axis, nor the global
configuration (R70, R73, R279). -/
def Obligations.ConfigFrozenWhileRunning : Prop :=
  ∀ (i : Instr) (s t : State), (s.ra.stopped = false ∨ s.dc.stopped = false) → exec i s = .next t →
    t.ra.config = s.ra.config ∧ t.dc.config = s.dc.config ∧ t.glob = s.glob

/-- An axis is disarmed only by ESTOP and by a fall with `currentSpeed > stopSpeed` (R56 (6), R136), and armed only by
START, SLEW and GOTO (R40). -/
def Obligations.ArmAndDisarm : Prop :=
  ∀ (i : Instr) (s t : State) (ax : Axis), exec i s = .next t →
    ((s.axis ax).stopped = false → (t.axis ax).stopped = true →
      i = .estop ax ∨ (i = .tick ax ∧ (s.axis ax).timerOn = true ∧ (s.axis ax).irqToNext = 1 ∧
        (s.axis ax).stepPin = true ∧ (s.axis ax).stopSpeed.toNat < (s.axis ax).currentSpeed.toNat)) ∧
    ((s.axis ax).stopped = true → (t.axis ax).stopped = false →
      i = .start ax ∨ i = .slew ax ∨ i = .goto ax)

/-- The direction pin never changes under a running axis (R272, R162). -/
def Obligations.DirPinStable : Prop :=
  ∀ (i : Instr) (s t : State) (ax : Axis), s.Legal → (s.axis ax).stopped = false → exec i s = .next t →
    (t.axis ax).dirPin = (s.axis ax).dirPin

/-! ### The rate table -/

/-- The total is `N / b` rounded half up and the slots of an unclamped table are differences of ceilings; outside the
bounds every slot is the bound (R101). -/
def Obligations.RateTableSlots : Prop :=
  ∀ b : BitVec 24, b ≠ 0 →
    let T : Nat := ⌊(256000000 : ℚ) / b.toNat + 1 / 2⌋₊
    ∀ i : Fin 32, ((buildRate b)[i.val]).toNat =
      if 32 * 65535 < T then 65535
      else if T < 32 * 128 then 128
      else ⌈((i.val + 1) * T : ℚ) / 32⌉₊ - ⌈(i.val * T : ℚ) / 32⌉₊

/-- The properties of every built table (R103, R104): entries in [128, 65535]; for an unclamped total `T`, the sum is
`T`, every slot is `T div 32` or one more, exactly `T mod 32` slots are one more, and slot 0 is among them if any is. -/
def Obligations.RateTableProperties : Prop :=
  ∀ b : BitVec 24, b ≠ 0 →
    let P := buildRate b
    let T := rateTotal b.toNat
    (∀ i : Fin 32, 128 ≤ P[i.val].toNat ∧ P[i.val].toNat ≤ 65535) ∧
    (32 * 128 ≤ T → T ≤ 32 * 65535 →
      ∑ i : Fin 32, P[i.val].toNat = T ∧
      (∀ i : Fin 32, P[i.val].toNat = T / 32 ∨ P[i.val].toNat = T / 32 + 1) ∧
      (Finset.univ.filter fun i : Fin 32 => P[i.val].toNat = T / 32 + 1).card = T % 32 ∧
      (0 < T % 32 → P[0].toNat = T / 32 + 1))

/-- The divisors that clamp: high for `b ≤ 122`, low for `b ≥ 62508`, none between (R102). -/
def Obligations.RateTableClamps : Prop :=
  ∀ b : BitVec 24, b ≠ 0 →
    (b.toNat ≤ 122 ↔ 32 * 65535 < rateTotal b.toNat) ∧ (62508 ≤ b.toNat ↔ rateTotal b.toNat < 32 * 128) ∧
    (b.toNat ≤ 122 → buildRate b = Vector.replicate 32 65535) ∧
    (62508 ≤ b.toNat → buildRate b = Vector.replicate 32 128)

/-! ### The host's contract -/

/-- Outside programming mode the emergency stop command `L` is ESTOP then DISABLE, and whatever TICKs occur around the
two, the axis ends stopped, its timer off and its driver disabled (R214); in programming mode the host answers it with an
error and issues nothing (R220). -/
def Obligations.EmergencyStopCommand : Prop :=
  ∀ (s : State) (ax : Axis) (h : HostState) (schedule : List (List Axis)),
    (h.programming = false →
      ∃ t, (SyntaCmd.expand ax h .emergencyStop).run schedule s = some ((.done, h), t) ∧
        (t.axis ax).stopped = true ∧ (t.axis ax).timerOn = false ∧ (t.axis ax).enablePin = true ∧
        (t.axis ax).enabled = false) ∧
    (h.programming = true → (SyntaCmd.expand ax h .emergencyStop).run schedule s = some ((.hostError, h), s))
end

