-- ==== Sys2Proof/Laws/AxisState.lean ====
section
/-! SUPPORT. The fields of an axis after each unconditional update of the step engine and the start procedure. -/

namespace Sys2Proof.Machine

open Sys2Proof

variable (a : AxisState)

@[simp] theorem AxisState.slotAdvance_jVal : a.slotAdvance.jVal = a.jVal := rfl
@[simp] theorem AxisState.slotAdvance_targetSpeed : a.slotAdvance.targetSpeed = a.targetSpeed := rfl
@[simp] theorem AxisState.slotAdvance_currentSpeed : a.slotAdvance.currentSpeed = a.currentSpeed := rfl
@[simp] theorem AxisState.slotAdvance_stopSpeed : a.slotAdvance.stopSpeed = a.stopSpeed := rfl
@[simp] theorem AxisState.slotAdvance_dir : a.slotAdvance.dir = a.dir := rfl
@[simp] theorem AxisState.slotAdvance_stepDir : a.slotAdvance.stepDir = a.stepDir := rfl
@[simp] theorem AxisState.slotAdvance_highSpeedMode : a.slotAdvance.highSpeedMode = a.highSpeedMode := rfl
@[simp] theorem AxisState.slotAdvance_stopped : a.slotAdvance.stopped = a.stopped := rfl
@[simp] theorem AxisState.slotAdvance_gotoRunning : a.slotAdvance.gotoRunning = a.gotoRunning := rfl
@[simp] theorem AxisState.slotAdvance_gotoDecelerating : a.slotAdvance.gotoDecelerating = a.gotoDecelerating := rfl
@[simp] theorem AxisState.slotAdvance_gotoEn : a.slotAdvance.gotoEn = a.gotoEn := rfl
@[simp] theorem AxisState.slotAdvance_gotoTarget : a.slotAdvance.gotoTarget = a.gotoTarget := rfl
@[simp] theorem AxisState.slotAdvance_decelLength : a.slotAdvance.decelLength = a.decelLength := rfl
@[simp] theorem AxisState.slotAdvance_HVal : a.slotAdvance.HVal = a.HVal := rfl
@[simp] theorem AxisState.slotAdvance_GVal : a.slotAdvance.GVal = a.GVal := rfl
@[simp] theorem AxisState.slotAdvance_accelIndex : a.slotAdvance.accelIndex = a.accelIndex := rfl
@[simp] theorem AxisState.slotAdvance_accelRepeatsLeft : a.slotAdvance.accelRepeatsLeft = a.accelRepeatsLeft := rfl
@[simp] theorem AxisState.slotAdvance_distributionSegment : a.slotAdvance.distributionSegment = a.distributionSegment + 1 := rfl
@[simp] theorem AxisState.slotAdvance_irqToNext : a.slotAdvance.irqToNext = a.currentSpeed := rfl
@[simp] theorem AxisState.slotAdvance_timerOn : a.slotAdvance.timerOn = a.timerOn := rfl
@[simp] theorem AxisState.slotAdvance_timerTop : a.slotAdvance.timerTop = a.rate[(a.distributionSegment + 1).toNat] := rfl
@[simp] theorem AxisState.slotAdvance_stepPin : a.slotAdvance.stepPin = a.stepPin := rfl
@[simp] theorem AxisState.slotAdvance_dirPin : a.slotAdvance.dirPin = a.dirPin := rfl
@[simp] theorem AxisState.slotAdvance_enablePin : a.slotAdvance.enablePin = a.enablePin := rfl
@[simp] theorem AxisState.slotAdvance_enabled : a.slotAdvance.enabled = a.enabled := rfl
@[simp] theorem AxisState.slotAdvance_modeSel : a.slotAdvance.modeSel = a.modeSel := rfl
@[simp] theorem AxisState.slotAdvance_err : a.slotAdvance.err = a.err := rfl
@[simp] theorem AxisState.slotAdvance_rate : a.slotAdvance.rate = a.rate := rfl
@[simp] theorem AxisState.slotAdvance_accel : a.slotAdvance.accel = a.accel := rfl
@[simp] theorem AxisState.slotAdvance_bVal : a.slotAdvance.bVal = a.bVal := rfl
@[simp] theorem AxisState.slotAdvance_siderealIVal : a.slotAdvance.siderealIVal = a.siderealIVal := rfl
@[simp] theorem AxisState.slotAdvance_normalGotoSpeed : a.slotAdvance.normalGotoSpeed = a.normalGotoSpeed := rfl
@[simp] theorem AxisState.slotAdvance_reverse : a.slotAdvance.reverse = a.reverse := rfl
@[simp] theorem AxisState.slotAdvance_freeCount : a.slotAdvance.freeCount = a.freeCount := rfl

@[simp] theorem AxisState.completePulse_jVal : a.completePulse.jVal = a.jVal + a.stepDir.signExtend 24 := rfl
@[simp] theorem AxisState.completePulse_targetSpeed : a.completePulse.targetSpeed = a.targetSpeed := rfl
@[simp] theorem AxisState.completePulse_currentSpeed : a.completePulse.currentSpeed = a.currentSpeed := rfl
@[simp] theorem AxisState.completePulse_stopSpeed : a.completePulse.stopSpeed = a.stopSpeed := rfl
@[simp] theorem AxisState.completePulse_dir : a.completePulse.dir = a.dir := rfl
@[simp] theorem AxisState.completePulse_stepDir : a.completePulse.stepDir = a.stepDir := rfl
@[simp] theorem AxisState.completePulse_highSpeedMode : a.completePulse.highSpeedMode = a.highSpeedMode := rfl
@[simp] theorem AxisState.completePulse_stopped : a.completePulse.stopped = a.stopped := rfl
@[simp] theorem AxisState.completePulse_gotoRunning : a.completePulse.gotoRunning = a.gotoRunning := rfl
@[simp] theorem AxisState.completePulse_gotoDecelerating : a.completePulse.gotoDecelerating = a.gotoDecelerating := rfl
@[simp] theorem AxisState.completePulse_gotoEn : a.completePulse.gotoEn = a.gotoEn := rfl
@[simp] theorem AxisState.completePulse_gotoTarget : a.completePulse.gotoTarget = a.gotoTarget := rfl
@[simp] theorem AxisState.completePulse_decelLength : a.completePulse.decelLength = a.decelLength := rfl
@[simp] theorem AxisState.completePulse_HVal : a.completePulse.HVal = a.HVal := rfl
@[simp] theorem AxisState.completePulse_GVal : a.completePulse.GVal = a.GVal := rfl
@[simp] theorem AxisState.completePulse_accelIndex : a.completePulse.accelIndex = a.accelIndex := rfl
@[simp] theorem AxisState.completePulse_accelRepeatsLeft : a.completePulse.accelRepeatsLeft = a.accelRepeatsLeft := rfl
@[simp] theorem AxisState.completePulse_distributionSegment : a.completePulse.distributionSegment = a.distributionSegment := rfl
@[simp] theorem AxisState.completePulse_irqToNext : a.completePulse.irqToNext = a.irqToNext := rfl
@[simp] theorem AxisState.completePulse_timerOn : a.completePulse.timerOn = a.timerOn := rfl
@[simp] theorem AxisState.completePulse_timerTop : a.completePulse.timerTop = a.timerTop := rfl
@[simp] theorem AxisState.completePulse_stepPin : a.completePulse.stepPin = false := rfl
@[simp] theorem AxisState.completePulse_dirPin : a.completePulse.dirPin = a.dirPin := rfl
@[simp] theorem AxisState.completePulse_enablePin : a.completePulse.enablePin = a.enablePin := rfl
@[simp] theorem AxisState.completePulse_enabled : a.completePulse.enabled = a.enabled := rfl
@[simp] theorem AxisState.completePulse_modeSel : a.completePulse.modeSel = a.modeSel := rfl
@[simp] theorem AxisState.completePulse_err : a.completePulse.err = a.err := rfl
@[simp] theorem AxisState.completePulse_rate : a.completePulse.rate = a.rate := rfl
@[simp] theorem AxisState.completePulse_accel : a.completePulse.accel = a.accel := rfl
@[simp] theorem AxisState.completePulse_bVal : a.completePulse.bVal = a.bVal := rfl
@[simp] theorem AxisState.completePulse_siderealIVal : a.completePulse.siderealIVal = a.siderealIVal := rfl
@[simp] theorem AxisState.completePulse_normalGotoSpeed : a.completePulse.normalGotoSpeed = a.normalGotoSpeed := rfl
@[simp] theorem AxisState.completePulse_reverse : a.completePulse.reverse = a.reverse := rfl
@[simp] theorem AxisState.completePulse_freeCount : a.completePulse.freeCount = a.freeCount := rfl

@[simp] theorem AxisState.startCommon_jVal : a.startCommon.jVal = a.jVal := rfl
@[simp] theorem AxisState.startCommon_targetSpeed : a.startCommon.targetSpeed = a.targetSpeed := rfl
@[simp] theorem AxisState.startCommon_currentSpeed : a.startCommon.currentSpeed = a.startSpeed := rfl
@[simp] theorem AxisState.startCommon_stopSpeed : a.startCommon.stopSpeed = a.startStop := rfl
@[simp] theorem AxisState.startCommon_dir : a.startCommon.dir = a.dir := rfl
@[simp] theorem AxisState.startCommon_stepDir : a.startCommon.stepDir = a.stepDir := rfl
@[simp] theorem AxisState.startCommon_highSpeedMode : a.startCommon.highSpeedMode = a.highSpeedMode := rfl
@[simp] theorem AxisState.startCommon_stopped : a.startCommon.stopped = a.stopped := rfl
@[simp] theorem AxisState.startCommon_gotoRunning : a.startCommon.gotoRunning = a.gotoRunning := rfl
@[simp] theorem AxisState.startCommon_gotoDecelerating : a.startCommon.gotoDecelerating = a.gotoDecelerating := rfl
@[simp] theorem AxisState.startCommon_gotoEn : a.startCommon.gotoEn = a.gotoEn := rfl
@[simp] theorem AxisState.startCommon_gotoTarget : a.startCommon.gotoTarget = a.gotoTarget := rfl
@[simp] theorem AxisState.startCommon_decelLength : a.startCommon.decelLength = a.decelLength := rfl
@[simp] theorem AxisState.startCommon_HVal : a.startCommon.HVal = a.HVal := rfl
@[simp] theorem AxisState.startCommon_GVal : a.startCommon.GVal = a.GVal := rfl
@[simp] theorem AxisState.startCommon_accelIndex : a.startCommon.accelIndex = a.accelIndex := rfl
@[simp] theorem AxisState.startCommon_accelRepeatsLeft : a.startCommon.accelRepeatsLeft = a.accelRepeatsLeft := rfl
@[simp] theorem AxisState.startCommon_distributionSegment : a.startCommon.distributionSegment = a.distributionSegment := rfl
@[simp] theorem AxisState.startCommon_irqToNext : a.startCommon.irqToNext = a.irqToNext := rfl
@[simp] theorem AxisState.startCommon_timerOn : a.startCommon.timerOn = a.timerOn := rfl
@[simp] theorem AxisState.startCommon_timerTop : a.startCommon.timerTop = a.timerTop := rfl
@[simp] theorem AxisState.startCommon_stepPin : a.startCommon.stepPin = a.stepPin := rfl
@[simp] theorem AxisState.startCommon_dirPin : a.startCommon.dirPin = (a.dir ^^ a.reverse) := rfl
@[simp] theorem AxisState.startCommon_enablePin : a.startCommon.enablePin = a.enablePin := rfl
@[simp] theorem AxisState.startCommon_enabled : a.startCommon.enabled = a.enabled := rfl
@[simp] theorem AxisState.startCommon_modeSel : a.startCommon.modeSel = a.modeSel := rfl
@[simp] theorem AxisState.startCommon_err : a.startCommon.err = a.err := rfl
@[simp] theorem AxisState.startCommon_rate : a.startCommon.rate = a.rate := rfl
@[simp] theorem AxisState.startCommon_accel : a.startCommon.accel = a.accel := rfl
@[simp] theorem AxisState.startCommon_bVal : a.startCommon.bVal = a.bVal := rfl
@[simp] theorem AxisState.startCommon_siderealIVal : a.startCommon.siderealIVal = a.siderealIVal := rfl
@[simp] theorem AxisState.startCommon_normalGotoSpeed : a.startCommon.normalGotoSpeed = a.normalGotoSpeed := rfl
@[simp] theorem AxisState.startCommon_reverse : a.startCommon.reverse = a.reverse := rfl
@[simp] theorem AxisState.startCommon_freeCount : a.startCommon.freeCount = a.freeCount := rfl

@[simp] theorem AxisState.startFresh_jVal : a.startFresh.jVal = a.jVal := rfl
@[simp] theorem AxisState.startFresh_targetSpeed : a.startFresh.targetSpeed = a.targetSpeed := rfl
@[simp] theorem AxisState.startFresh_currentSpeed : a.startFresh.currentSpeed = a.currentSpeed := rfl
@[simp] theorem AxisState.startFresh_stopSpeed : a.startFresh.stopSpeed = a.stopSpeed := rfl
@[simp] theorem AxisState.startFresh_dir : a.startFresh.dir = a.dir := rfl
@[simp] theorem AxisState.startFresh_stepDir : a.startFresh.stepDir = a.stepDir := rfl
@[simp] theorem AxisState.startFresh_highSpeedMode : a.startFresh.highSpeedMode = a.highSpeedMode := rfl
@[simp] theorem AxisState.startFresh_stopped : a.startFresh.stopped = false := rfl
@[simp] theorem AxisState.startFresh_gotoRunning : a.startFresh.gotoRunning = a.gotoRunning := rfl
@[simp] theorem AxisState.startFresh_gotoDecelerating : a.startFresh.gotoDecelerating = a.gotoDecelerating := rfl
@[simp] theorem AxisState.startFresh_gotoEn : a.startFresh.gotoEn = a.gotoEn := rfl
@[simp] theorem AxisState.startFresh_gotoTarget : a.startFresh.gotoTarget = a.gotoTarget := rfl
@[simp] theorem AxisState.startFresh_decelLength : a.startFresh.decelLength = a.decelLength := rfl
@[simp] theorem AxisState.startFresh_HVal : a.startFresh.HVal = a.HVal := rfl
@[simp] theorem AxisState.startFresh_GVal : a.startFresh.GVal = a.GVal := rfl
@[simp] theorem AxisState.startFresh_accelIndex : a.startFresh.accelIndex = 0 := rfl
@[simp] theorem AxisState.startFresh_accelRepeatsLeft : a.startFresh.accelRepeatsLeft = a.rep 0 := rfl
@[simp] theorem AxisState.startFresh_distributionSegment : a.startFresh.distributionSegment = 0 := rfl
@[simp] theorem AxisState.startFresh_irqToNext : a.startFresh.irqToNext = 1 := rfl
@[simp] theorem AxisState.startFresh_timerOn : a.startFresh.timerOn = true := rfl
@[simp] theorem AxisState.startFresh_timerTop : a.startFresh.timerTop = a.rate[0] := rfl
@[simp] theorem AxisState.startFresh_stepPin : a.startFresh.stepPin = a.stepPin := rfl
@[simp] theorem AxisState.startFresh_dirPin : a.startFresh.dirPin = a.dirPin := rfl
@[simp] theorem AxisState.startFresh_enablePin : a.startFresh.enablePin = a.enablePin := rfl
@[simp] theorem AxisState.startFresh_enabled : a.startFresh.enabled = a.enabled := rfl
@[simp] theorem AxisState.startFresh_modeSel : a.startFresh.modeSel = a.modeSel := rfl
@[simp] theorem AxisState.startFresh_err : a.startFresh.err = a.err := rfl
@[simp] theorem AxisState.startFresh_rate : a.startFresh.rate = a.rate := rfl
@[simp] theorem AxisState.startFresh_accel : a.startFresh.accel = a.accel := rfl
@[simp] theorem AxisState.startFresh_bVal : a.startFresh.bVal = a.bVal := rfl
@[simp] theorem AxisState.startFresh_siderealIVal : a.startFresh.siderealIVal = a.siderealIVal := rfl
@[simp] theorem AxisState.startFresh_normalGotoSpeed : a.startFresh.normalGotoSpeed = a.normalGotoSpeed := rfl
@[simp] theorem AxisState.startFresh_reverse : a.startFresh.reverse = a.reverse := rfl
@[simp] theorem AxisState.startFresh_freeCount : a.startFresh.freeCount = a.freeCount := rfl

end Sys2Proof.Machine
end

