-- ==== Sys2Proof/Laws/State.lean ====
section
/-! SUPPORT. The fields of a state after each of its updates. -/

namespace Sys2Proof.Machine

open Sys2Proof

variable (s : State) (ax : Axis) (a : AxisState) (c : Code) (d : BitVec 32)

@[simp] theorem Axis.other_other : ax.other.other = ax := by cases ax <;> rfl
@[simp] theorem Axis.other_ne : ax.other ≠ ax := by cases ax <;> simp [Axis.other]
@[simp] theorem Axis.ofBit_bit : Axis.ofBit ax.bit = ax := by cases ax <;> rfl
@[simp] theorem Axis.bit_ofBit (b : Bool) : (Axis.ofBit b).bit = b := by cases b <;> rfl

@[simp] theorem State.axis_ra : s.axis .ra = s.ra := rfl
@[simp] theorem State.axis_dc : s.axis .dc = s.dc := rfl

@[simp] theorem State.axis_setAxis : (s.setAxis ax a).axis ax = a := by cases ax <;> rfl
@[simp] theorem State.other_setAxis : (s.setAxis ax a).axis ax.other = s.axis ax.other := by cases ax <;> rfl
@[simp] theorem State.setAxis_glob : (s.setAxis ax a).glob = s.glob := by cases ax <;> rfl
@[simp] theorem State.setAxis_response : (s.setAxis ax a).response = s.response := by cases ax <;> rfl
@[simp] theorem State.setAxis_input : (s.setAxis ax a).input = s.input := by cases ax <;> rfl
@[simp] theorem State.setAxis_axis : s.setAxis ax (s.axis ax) = s := by cases ax <;> rfl
@[simp] theorem State.setAxis_setAxis (b : AxisState) : (s.setAxis ax a).setAxis ax b = s.setAxis ax b := by
  cases ax <;> rfl
theorem State.setAxis_comm (b : AxisState) :
    (s.setAxis ax a).setAxis ax.other b = (s.setAxis ax.other b).setAxis ax a := by cases ax <;> rfl

@[simp] theorem State.respond_ra : (s.respond c d).ra = s.ra := rfl
@[simp] theorem State.respond_dc : (s.respond c d).dc = s.dc := rfl
@[simp] theorem State.respond_glob : (s.respond c d).glob = s.glob := rfl
@[simp] theorem State.respond_response : (s.respond c d).response = some ⟨c, d⟩ := rfl
@[simp] theorem State.respond_input : (s.respond c d).input = s.input := rfl
@[simp] theorem State.respond_axis : (s.respond c d).axis ax = s.axis ax := by cases ax <;> rfl

@[simp] theorem State.silent_ra : s.silent.ra = s.ra := rfl
@[simp] theorem State.silent_dc : s.silent.dc = s.dc := rfl
@[simp] theorem State.silent_glob : s.silent.glob = s.glob := rfl
@[simp] theorem State.silent_response : s.silent.response = none := rfl
@[simp] theorem State.silent_input : s.silent.input = s.input := rfl
@[simp] theorem State.silent_axis : s.silent.axis ax = s.axis ax := by cases ax <;> rfl

@[simp] theorem State.finish_axis : (s.finish ax c).axis ax = { s.axis ax with err := c.bits } := by cases ax <;> rfl
@[simp] theorem State.finish_other : (s.finish ax c).axis ax.other = s.axis ax.other := by cases ax <;> rfl
@[simp] theorem State.finish_glob : (s.finish ax c).glob = s.glob := by cases ax <;> rfl
@[simp] theorem State.finish_response : (s.finish ax c).response = some ⟨c, 0⟩ := rfl
@[simp] theorem State.finish_input : (s.finish ax c).input = s.input := by cases ax <;> rfl
@[simp] theorem State.reject_eq_finish : s.reject ax c = s.finish ax c := rfl
@[simp] theorem State.accept_eq_finish : s.accept ax = s.finish ax .ok := rfl

@[simp] theorem State.withFetchWord_input (n w : Nat) :
    (s.withFetchWord n w).input = .word (wordOfBits n w) :: s.input := rfl
@[simp] theorem State.withFetchWord_axis (n w : Nat) : (s.withFetchWord n w).axis ax = s.axis ax := by
  cases ax <;> rfl
@[simp] theorem State.withFetchWord_glob (n w : Nat) : (s.withFetchWord n w).glob = s.glob := rfl

@[simp] theorem State.axis_glob_update (g : GlobalConfig) : { s with glob := g }.axis ax = s.axis ax := by cases ax <;> rfl
@[simp] theorem State.axis_input_update (r : List Input) : { s with input := r }.axis ax = s.axis ax := by cases ax <;> rfl
@[simp] theorem State.axis_response_update (r : Option Response) : { s with response := r }.axis ax = s.axis ax := by
  cases ax <;> rfl

/-- Two states are equal when one axis, the other axis and the rest are. -/
theorem State.ext_axis {s t : State} (ax : Axis) (h1 : s.axis ax = t.axis ax)
    (h2 : s.axis ax.other = t.axis ax.other) (h3 : s.glob = t.glob) (h4 : s.response = t.response)
    (h5 : s.input = t.input) : s = t := by
  cases s; cases t; cases ax <;> simp_all [State.axis, Axis.other]

end Sys2Proof.Machine
end

