-- ==== Sys2Proof/Laws/Decode.lean ====
section
/-! SUPPORT. The fields of a word put together from fields (30_encoding.md R80). -/

namespace Sys2Proof

variable (k : BitVec 2) (b : Bool) (o : BitVec 7) (d : BitVec 32)

/-- Each bit of a word put together from fields is a bit of the field that stands there. -/
theorem TWord.getLsbD_make (i : Nat) (hi : i < 42) :
    (TWord.make k b o d).getLsbD i =
      if i < 32 then d.getLsbD i else if i < 39 then o.getLsbD (i - 32) else if i = 39 then b
      else k.getLsbD (i - 40) := by
  simp only [TWord.make, BitVec.getLsbD_or, BitVec.getLsbD_shiftLeft, BitVec.getLsbD_setWidth, BitVec.getLsbD_ofBool,
    hi, decide_true, Bool.true_and]
  by_cases h1 : i < 32
  · have h2 : i < 40 := by omega
    have h3 : i < 39 := by omega
    simp [h1, h2, h3]
  · have hd : d.getLsbD i = false := BitVec.getLsbD_of_ge _ _ (by omega)
    by_cases h3 : i < 39
    · have h2 : i < 40 := by omega
      have h4 : i - 32 < 42 := by omega
      simp [h1, h2, h3, hd, h4]
    · have ho : o.getLsbD (i - 32) = false := BitVec.getLsbD_of_ge _ _ (by omega)
      by_cases h5 : i = 39
      · subst h5
        simp
      · have h6 : ¬(i - 39 = 0) := by omega
        have h7 : ¬(i < 40) := by omega
        have h8 : i - 40 < 42 := by omega
        simp [h1, h3, h5, h6, h7, h8, hd, ho]

@[simp] theorem TWord.kind_make : (TWord.make k b o d).kind = k := by
  apply BitVec.eq_of_getLsbD_eq
  intro i hi
  have h1 : ¬(40 + i < 32) := by omega
  have h2 : ¬(40 + i < 39) := by omega
  have h3 : ¬(40 + i = 39) := by omega
  simp [TWord.kind, hi, TWord.getLsbD_make k b o d (40 + i) (by omega), h1, h2, h3]

@[simp] theorem TWord.axisBit_make : (TWord.make k b o d).axisBit = b := by
  simpa [TWord.axisBit] using TWord.getLsbD_make k b o d 39 (by omega)

@[simp] theorem TWord.offset_make : (TWord.make k b o d).offset = o := by
  apply BitVec.eq_of_getLsbD_eq
  intro i hi
  have h1 : ¬(32 + i < 32) := by omega
  have h2 : 32 + i < 39 := by omega
  simp [TWord.offset, hi, TWord.getLsbD_make k b o d (32 + i) (by omega), h2]

@[simp] theorem TWord.data_make : (TWord.make k b o d).data = d := by
  apply BitVec.eq_of_getLsbD_eq
  intro i hi
  simp [TWord.data, hi, TWord.getLsbD_make k b o d i (by omega)]

/-- A word is its four fields. -/
theorem TWord.make_fields (w : TWord) : TWord.make w.kind w.axisBit w.offset w.data = w := by
  apply BitVec.eq_of_getLsbD_eq
  intro i hi
  rw [TWord.getLsbD_make _ _ _ _ i hi]
  simp only [TWord.kind, TWord.axisBit, TWord.offset, TWord.data, BitVec.getLsbD_extractLsb']
  by_cases h1 : i < 32
  · simp [h1]
  · by_cases h2 : i < 39
    · have h3 : i - 32 < 7 := by omega
      have h4 : 32 + (i - 32) = i := by omega
      simp [h1, h2, h3, h4]
    · by_cases h3 : i = 39
      · simp [h3]
      · have h4 : i - 40 < 2 := by omega
        have h5 : 40 + (i - 40) = i := by omega
        simp [h1, h2, h3, h4, h5]

end Sys2Proof
end

