-- ==== Sys2Proof/Laws/Operands.lean ====
section
/-! SUPPORT. The register map and the tables, entry by entry. -/

namespace Sys2Proof.Machine

open Sys2Proof

/-- Every register is found at its offset. -/
theorem Reg.ofOffset_offset (r : Reg) : Reg.ofOffset r.offset = some r := by
  cases r with
  | rate i => revert i; decide
  | accel i => revert i; decide
  | _ => decide

/-- No two registers share an offset. -/
theorem Reg.offset_injective : Function.Injective Reg.offset := by
  intro r r' h
  have := Reg.ofOffset_offset r
  rw [h, Reg.ofOffset_offset] at this
  exact (Option.some.inj this).symm

theorem speedLegal_iff (v : BitVec 16) : speedLegal v = true ↔ 1 ≤ v.toNat ∧ v.toNat ≤ 0xFFFE := by
  simp only [speedLegal, Bool.and_eq_true, bne_iff_ne, ne_eq, BitVec.toNat_eq]
  have := v.isLt
  simp
  omega

theorem siderealLegal_iff (p : Params) (v : BitVec 16) :
    siderealLegal p v = true ↔ p.minIval ≤ v.toNat ∧ v.toNat ≤ 1200 := by
  simp [siderealLegal]

/-- The slots of a table of total `T`, one by one (40_rate_table.md R101). -/
theorem rateTable_getElem (T i : Nat) (h : i < 32) :
    (rateTable T)[i] = if T > 32 * 65535 then 65535 else if T < 32 * 128 then 128 else BitVec.ofNat 16 (rateSlot T i) := by
  unfold rateTable
  split
  · simp
  · split <;> simp

/-- A state with nothing to read answers none outside the map. -/
theorem State.read_of_reg (s : State) (ax : Axis) (r : Reg) (h : r.readable = true) :
    s.read ax r.offset = some (s.readReg ax r) := by
  simp [State.read, Reg.ofOffset_offset, h]

/-- `MIN_IVAL` lies in [1, 1200], whatever it is (92_eei_decisions.md D29). -/
theorem Config.params_minIval : 1 ≤ Config.params.minIval ∧ Config.params.minIval ≤ 1200 := by
  have := Config.minIvalPred.isLt
  simp only [Config.params]
  omega

/-- `FAMILY_498X` is a member of `DRIVER_FAMILIES` (00_scope.md R7). -/
theorem Config.params_family : Config.params.isFamily Config.family498X = true := by
  simp [Params.isFamily, Config.params]

end Sys2Proof.Machine
end

