-- ==== Sys2Proof/Laws/Ops.lean ====
section
/-! SUPPORT. For each shared operation, one lemma that says everything it can do. -/

namespace Sys2Proof.Machine

open Sys2Proof

variable (s t : State) (ax : Axis) (a : AxisState)

theorem State.writeMotion_cases (check : Bool) :
    (check = true ∧ s.writeMotion ax check t = t.finish ax .ok) ∨
    (check = false ∧ s.writeMotion ax check t = s.finish ax .range) := by
  cases check <;> simp [State.writeMotion]

theorem State.writeConfig_cases (check : Bool) :
    (s.bothStopped = false ∧ s.writeConfig ax check t = s.finish ax .busy) ∨
    (s.bothStopped = true ∧ check = false ∧ s.writeConfig ax check t = s.finish ax .range) ∨
    (s.bothStopped = true ∧ check = true ∧ s.writeConfig ax check t = t.finish ax .ok) := by
  cases check <;> cases h : s.bothStopped <;> simp [State.writeConfig, State.writeMotion, h]

theorem execRd_cases (off : BitVec 7) :
    (∃ v, s.read ax off = some v ∧ execRd ax off s = .next (s.respond .ok v)) ∨
    (s.read ax off = none ∧ execRd ax off s = .next (s.respond .illegal 0)) := by
  cases h : s.read ax off <;> simp [execRd, h]

/-- A free speed is at least 1. -/
theorem Config.freeSpeed_pos (n : Nat) : 1 ≤ (Config.freeSpeed n).toNat := by
  have := (Config.freeSpeedPred n).isLt
  simp only [Config.freeSpeed, BitVec.toNat_ofNat]
  omega

/-- Only the target and the model's own counter change; the target is at least 1, and where `stopSpeed + 1` fits it is
that and the counter stays. -/
theorem AxisState.aimPastStop_cases :
    ∃ v n, a.aimPastStop = { a with targetSpeed := v, freeCount := n } ∧ 1 ≤ v.toNat ∧
      (a.stopSpeed ≠ 0xFFFF → v.toNat = a.stopSpeed.toNat + 1 ∧ n = a.freeCount) := by
  unfold AxisState.aimPastStop
  by_cases h : a.stopSpeed = 0xFFFF
  · exact ⟨_, _, if_pos h, Config.freeSpeed_pos _, fun hn => absurd h hn⟩
  · have hn : a.stopSpeed.toNat ≠ 0xFFFF := fun hc => h (BitVec.eq_of_toNat_eq hc)
    have hv : (a.stopSpeed + 1).toNat = a.stopSpeed.toNat + 1 := by
      have := a.stopSpeed.isLt
      rw [BitVec.toNat_add, show (1 : BitVec 16).toNat = 1 from rfl]
      omega
    exact ⟨_, _, if_neg h, by omega, fun _ => ⟨hv, rfl⟩⟩

theorem AxisState.trigger_cases :
    (a.gotoRunning = true ∧ a.gotoDecelerating = false ∧ a.jVal = a.gotoTarget ∧
      a.trigger = { a with gotoDecelerating := true }.aimPastStop) ∨
    (¬(a.gotoRunning = true ∧ a.gotoDecelerating = false ∧ a.jVal = a.gotoTarget) ∧ a.trigger = a) := by
  unfold AxisState.trigger
  split <;> rename_i h
  · simp only [Bool.and_eq_true, Bool.not_eq_true', beq_iff_eq] at h
    exact .inl ⟨h.1.1, h.1.2, h.2, rfl⟩
  · refine .inr ⟨fun hc => h ?_, rfl⟩
    simp [hc.1, hc.2.1, hc.2.2]

theorem AxisState.stopCheck_cases :
    (a.stopSpeed < a.currentSpeed ∧
      a.stopCheck = { a with stopped := true, gotoRunning := false, timerOn := false }) ∨
    (¬a.stopSpeed < a.currentSpeed ∧ a.stopCheck = a) := by
  unfold AxisState.stopCheck
  split <;> rename_i h
  · exact .inl ⟨h, rfl⟩
  · exact .inr ⟨h, rfl⟩

theorem AxisState.accelerate_cases :
    (a.accelIndex = 5 ∧ a.accelerate = { a with currentSpeed := a.targetSpeed }) ∨
    (a.accelIndex ≠ 5 ∧ a.accel[(a.accelIndex + 1).val].speed < a.targetSpeed ∧
      a.accelerate = { a with accelIndex := a.accelIndex + 1, currentSpeed := a.targetSpeed }) ∨
    (a.accelIndex ≠ 5 ∧ ¬a.accel[(a.accelIndex + 1).val].speed < a.targetSpeed ∧
      a.accelerate = { a with
        accelIndex := a.accelIndex + 1
        currentSpeed := a.accel[(a.accelIndex + 1).val].speed
        accelRepeatsLeft := a.rep (a.accelIndex + 1) }) := by
  unfold AxisState.accelerate
  by_cases h : a.accelIndex = 5
  · exact .inl ⟨h, by simp [h]⟩
  · by_cases h2 : a.accel[(a.accelIndex + 1).val].speed < a.targetSpeed
    · exact .inr (.inl ⟨h, h2, by simp only [h, if_false, h2, if_true]⟩)
    · exact .inr (.inr ⟨h, h2, by simp only [h, if_false, h2]⟩)

theorem AxisState.decelerate_cases :
    (a.accelIndex = 0 ∧ a.decelerate = { a with currentSpeed := a.targetSpeed }) ∨
    (a.accelIndex ≠ 0 ∧ a.accel[(a.accelIndex - 1).val].speed > a.targetSpeed ∧
      a.decelerate = { a with accelIndex := a.accelIndex - 1, currentSpeed := a.targetSpeed }) ∨
    (a.accelIndex ≠ 0 ∧ ¬a.accel[(a.accelIndex - 1).val].speed > a.targetSpeed ∧
      a.decelerate = { a with
        accelIndex := a.accelIndex - 1
        currentSpeed := a.accel[(a.accelIndex - 1).val].speed
        accelRepeatsLeft := a.rep (a.accelIndex - 1) }) := by
  unfold AxisState.decelerate
  by_cases h : a.accelIndex = 0
  · exact .inl ⟨h, by simp [h]⟩
  · by_cases h2 : a.accel[(a.accelIndex - 1).val].speed > a.targetSpeed
    · exact .inr (.inl ⟨h, h2, by simp only [h, if_false, h2, if_true]⟩)
    · exact .inr (.inr ⟨h, h2, by simp only [h, if_false, h2]⟩)

theorem AxisState.walk_cases :
    (a.currentSpeed > a.targetSpeed ∧ a.walk = a.accelerate) ∨
    (a.currentSpeed < a.targetSpeed ∧ a.walk = a.decelerate) ∨
    (a.currentSpeed = a.targetSpeed ∧ a.walk = a) := by
  unfold AxisState.walk
  by_cases h : a.currentSpeed > a.targetSpeed
  · exact .inl ⟨h, by simp only [h, if_true]⟩
  · by_cases h2 : a.currentSpeed < a.targetSpeed
    · exact .inr (.inl ⟨h2, by simp only [h, if_false, h2, if_true]⟩)
    · refine .inr (.inr ⟨?_, by simp only [h, if_false, h2]⟩)
      exact BitVec.le_antisymm (BitVec.not_lt.mp h) (BitVec.not_lt.mp h2)

theorem AxisState.rise_cases :
    (a.accelRepeatsLeft > 0 ∧
      a.rise = { a with stepPin := true, accelRepeatsLeft := a.accelRepeatsLeft - 1 }) ∨
    (¬a.accelRepeatsLeft > 0 ∧ a.rise = { a with stepPin := true }.walk) := by
  unfold AxisState.rise
  by_cases h : a.accelRepeatsLeft > 0
  · exact .inl ⟨h, by simp only [h, if_true]⟩
  · exact .inr ⟨h, by simp only [h, if_false]⟩

theorem AxisState.tick_cases :
    (a.timerOn = false ∧ a.tick = a) ∨
    (a.timerOn = true ∧ a.irqToNext ≠ 1 ∧ a.tick = { a with irqToNext := a.irqToNext - 1 }) ∨
    (a.timerOn = true ∧ a.irqToNext = 1 ∧ a.stepPin = true ∧
      a.tick = { a with irqToNext := 0 }.slotAdvance.fall) ∨
    (a.timerOn = true ∧ a.irqToNext = 1 ∧ a.stepPin = false ∧
      a.tick = { a with irqToNext := 0 }.slotAdvance.rise) := by
  unfold AxisState.tick AxisState.countdown AxisState.edge
  cases ht : a.timerOn
  · exact .inl ⟨rfl, by simp⟩
  · by_cases h : a.irqToNext = 1
    · cases hp : a.stepPin
      · exact .inr (.inr (.inr ⟨rfl, h, rfl, by simp [h]⟩))
      · exact .inr (.inr (.inl ⟨rfl, h, rfl, by simp [h]⟩))
    · refine .inr (.inl ⟨rfl, h, ?_⟩)
      have hne : a.irqToNext - 1 ≠ 0 := fun hc => h (by rw [BitVec.sub_eq_iff_eq_add] at hc; simpa using hc)
      rw [if_pos rfl]
      exact if_pos hne

theorem AxisState.startMotion_cases :
    (a.stopped = true ∧ a.startMotion = a.startCommon.startFresh) ∨
    (a.stopped = false ∧ a.startMotion = a.startCommon) := by
  cases h : a.stopped <;> simp [AxisState.startMotion, h]

/-- The start's threshold is `max(targetSpeed, minSpeed)`. -/
theorem AxisState.startStop_toNat : a.startStop.toNat = max a.targetSpeed.toNat a.minSpeed.toNat := by
  unfold AxisState.startStop
  split <;> rename_i h <;> rw [BitVec.le_def] at h <;> omega

/-- The dwell loaded for an entry, as a number (R114). -/
theorem AxisState.rep_toNat (i : Fin 6) :
    (a.rep i).toNat = (if a.highSpeedMode then 3 * a.accel[i.val].repeats.toNat + 2
      else a.accel[i.val].repeats.toNat) := by
  have h := a.accel[i.val].repeats.isLt
  unfold AxisState.rep
  split <;> simp <;> omega

theorem AxisState.rep_le (i : Fin 6) : (a.rep i).toNat ≤ 767 := by
  have h := a.accel[i.val].repeats.isLt
  rw [AxisState.rep_toNat]
  split <;> omega

/-- No instruction touches the inputs still to come. -/
theorem exec_input (i : Instr) {s t : State} (h : exec i s = .next t) : t.input = s.input := by
  cases i <;>
    simp only [exec, execRd, execTick, execEnable, execDisable, execConfigure, execSlew, execGoto, execStart, execStop,
      execEstop, execRetarget, execWrJval, execWrTarget, execWrHval, execWrMode, execWrGotospeed, execWrSidereal,
      State.wrSidereal, execWrBval, execWrAxcfg, execWrAccel, execWrGcfg, State.wrGcfg, State.writeConfig,
      State.writeMotion, State.accept_eq_finish, State.reject_eq_finish, Host.Outcome.next.injEq] at h <;>
    subst h <;> (repeat' split) <;> simp

theorem State.deliver_word_ok {w : TWord} {i : Instr} (h : decode w = .ok i) : s.deliver (.word w) = exec i s := by
  simp [State.deliver, State.deliverWord, h]

theorem State.deliver_word_error {w : TWord} {e : Reserved} (h : decode w = .error e) :
    s.deliver (.word w) = .next (s.finish (Axis.ofBit w.axisBit) .illegal) := by
  simp [State.deliver, State.deliverWord, h, State.reserved]

end Sys2Proof.Machine
end

