-- ==== Sys2Proof/Laws/PerInstr.lean ====
section
/-! SUPPORT. Families of statements about the instructions as syntax, one lemma per constructor. -/

namespace Sys2Proof.Laws

open Sys2Proof

/-- Bit 39 of every instruction's word is its axis (30_encoding.md R82). -/
def EncodedAxis.Statement (i : Instr) : Prop := Axis.ofBit (encode i).axisBit = i.axis

theorem EncodedAxis.rd (ax : Axis) (a : BitVec 7) : EncodedAxis.Statement (.rd ax a) := by
  simp [EncodedAxis.Statement, encode, Instr.axis]
theorem EncodedAxis.tick (ax : Axis) : EncodedAxis.Statement (.tick ax) := by
  simp [EncodedAxis.Statement, encode, Instr.axis]
theorem EncodedAxis.enable (ax : Axis) : EncodedAxis.Statement (.enable ax) := by
  simp [EncodedAxis.Statement, encode, Instr.axis]
theorem EncodedAxis.disable (ax : Axis) : EncodedAxis.Statement (.disable ax) := by
  simp [EncodedAxis.Statement, encode, Instr.axis]
theorem EncodedAxis.configure (ax : Axis) : EncodedAxis.Statement (.configure ax) := by
  simp [EncodedAxis.Statement, encode, Instr.axis]
theorem EncodedAxis.slew (ax : Axis) : EncodedAxis.Statement (.slew ax) := by
  simp [EncodedAxis.Statement, encode, Instr.axis]
theorem EncodedAxis.goto (ax : Axis) : EncodedAxis.Statement (.goto ax) := by
  simp [EncodedAxis.Statement, encode, Instr.axis]
theorem EncodedAxis.start (ax : Axis) : EncodedAxis.Statement (.start ax) := by
  simp [EncodedAxis.Statement, encode, Instr.axis]
theorem EncodedAxis.stop (ax : Axis) : EncodedAxis.Statement (.stop ax) := by
  simp [EncodedAxis.Statement, encode, Instr.axis]
theorem EncodedAxis.estop (ax : Axis) : EncodedAxis.Statement (.estop ax) := by
  simp [EncodedAxis.Statement, encode, Instr.axis]
theorem EncodedAxis.retarget (ax : Axis) (v : BitVec 16) : EncodedAxis.Statement (.retarget ax v) := by
  simp [EncodedAxis.Statement, encode, Instr.axis]
theorem EncodedAxis.wrJval (ax : Axis) (v : BitVec 24) : EncodedAxis.Statement (.wrJval ax v) := by
  simp [EncodedAxis.Statement, encode, Instr.axis]
theorem EncodedAxis.wrTarget (ax : Axis) (v : BitVec 16) : EncodedAxis.Statement (.wrTarget ax v) := by
  simp [EncodedAxis.Statement, encode, Instr.axis]
theorem EncodedAxis.wrHval (ax : Axis) (v : BitVec 24) : EncodedAxis.Statement (.wrHval ax v) := by
  simp [EncodedAxis.Statement, encode, Instr.axis]
theorem EncodedAxis.wrMode (ax : Axis) (g : BitVec 4) (d e : Bool) : EncodedAxis.Statement (.wrMode ax g d e) := by
  simp [EncodedAxis.Statement, encode, Instr.axis]
theorem EncodedAxis.wrGotospeed (ax : Axis) (v : BitVec 8) : EncodedAxis.Statement (.wrGotospeed ax v) := by
  simp [EncodedAxis.Statement, encode, Instr.axis]
theorem EncodedAxis.wrSidereal (ax : Axis) (v : BitVec 16) : EncodedAxis.Statement (.wrSidereal ax v) := by
  simp [EncodedAxis.Statement, encode, Instr.axis]
theorem EncodedAxis.wrBval (ax : Axis) (b : BitVec 24) : EncodedAxis.Statement (.wrBval ax b) := by
  simp [EncodedAxis.Statement, encode, Instr.axis]
theorem EncodedAxis.wrAxcfg (ax : Axis) (r : Bool) : EncodedAxis.Statement (.wrAxcfg ax r) := by
  simp [EncodedAxis.Statement, encode, Instr.axis]
theorem EncodedAxis.wrAccel (ax : Axis) (i : Nat) (sp : BitVec 16) (r : BitVec 8) : EncodedAxis.Statement (.wrAccel ax i sp r) := by
  simp [EncodedAxis.Statement, encode, Instr.axis]
theorem EncodedAxis.wrGcfg (ax : Axis) (m : BitVec 8) (f : BitVec 4) (h a : Bool) : EncodedAxis.Statement (.wrGcfg ax m f h a) := by
  simp [EncodedAxis.Statement, encode, Instr.axis]

end Sys2Proof.Laws
end

