-- ==== Sys2Proof/Tests/Slice0.lean ====
section
/-! SUPPORT. Tests: ill-formed terms refused, words written out from the encoding and decoded, single steps against
95_test_vectors.md, and for every statement with hypotheses a state that meets them. -/

namespace Sys2Proof.Tests

open Sys2Proof Sys2Proof.Machine

/-! ### Helpers -/

/-- The state after an instruction (every instruction answers a next state). -/
def after (i : Instr) (s : State) : State :=
  match exec i s with
  | .next t => t
  | .fault _ => s
  | .refused _ => s

/-- The response of a step, as (code, data) of 95_test_vectors.md. -/
def answer (s : State) : Option (Code × BitVec 32) := s.response.map fun r => (r.code, r.data)

/-- The illustrative parameters of 95_test_vectors.md V35, with `MIN_IVAL = 1`. -/
def params35 : Params := { minIval := 1, family498X := 1, otherFamilies := [0, 2, 3] }

/-- An axis after reset with the default configuration. -/
def idle : AxisState := AxisState.resetWith Config.bootAxis 0

/-- The axis of vector V10: RA after SLEW. -/
def slewing : AxisState := { idle with accelRepeatsLeft := 2, stopped := false, timerOn := true }

/-- An axis cruising at the goto speed 16 at entry 5, the state of vectors V12 to V14. -/
def cruising : AxisState :=
  { slewing with targetSpeed := 16, currentSpeed := 16, stopSpeed := 200, accelIndex := 5, accelRepeatsLeft := 0,
                 irqToNext := 16, timerTop := 200 }

/-- The machine with the given axis RA and DC after reset. -/
def onRa (a : AxisState) : State := { State.reset with ra := a, dc := idle }

/-! ### WellFormed -/

theorem test_wellFormed_refuses_index_8 : (Instr.wrAccel .ra 8 200 2).wellFormed = false := by decide
theorem test_wellFormed_admits_index_7 : (Instr.wrAccel .ra 7 200 2).wellFormed = true := by decide

/-! ### Decoding: KIND, the axis bit, the offset and DATA written out (30_encoding.md R80 to R89; the words of
95_test_vectors.md section 2.6) -/

theorem test_decode_rd : decode (0b00#2 ++ 0b0#1 ++ 0b0000011#7 ++ 0x00000000#32) = .ok (.rd .ra 0x03) := by decide
theorem test_decode_rd_dc : decode 0x0A900000000 = .ok (.rd .dc 0x29) := by decide
theorem test_decode_rd_ignores_data : decode (0b00#2 ++ 0b1#1 ++ 0b0001001#7 ++ 0xFFFFFFFF#32) = .ok (.rd .dc 0x09) := by
  decide
theorem test_decode_tick : decode (0b10#2 ++ 0b1#1 ++ 0b0000000#7 ++ 0x00000000#32) = .ok (.tick .dc) := by decide
theorem test_decode_enable : decode (0b01#2 ++ 0b0#1 ++ 0b0000000#7 ++ 0x00000001#32) = .ok (.enable .ra) := by decide
theorem test_decode_disable : decode (0b01#2 ++ 0b1#1 ++ 0b0000000#7 ++ 0x00000002#32) = .ok (.disable .dc) := by decide
theorem test_decode_configure : decode (0b01#2 ++ 0b0#1 ++ 0b0000000#7 ++ 0x00000003#32) = .ok (.configure .ra) := by
  decide
theorem test_decode_slew : decode (0b01#2 ++ 0b0#1 ++ 0b0000000#7 ++ 0x00000004#32) = .ok (.slew .ra) := by decide
theorem test_decode_goto : decode (0b01#2 ++ 0b1#1 ++ 0b0000000#7 ++ 0x00000005#32) = .ok (.goto .dc) := by decide
theorem test_decode_start : decode (0b01#2 ++ 0b0#1 ++ 0b0000000#7 ++ 0x00000006#32) = .ok (.start .ra) := by decide
theorem test_decode_stop : decode (0b01#2 ++ 0b0#1 ++ 0b0000000#7 ++ 0x00000007#32) = .ok (.stop .ra) := by decide
theorem test_decode_estop : decode (0b01#2 ++ 0b0#1 ++ 0b0000000#7 ++ 0x00000008#32) = .ok (.estop .ra) := by decide
theorem test_decode_retarget :
    decode (0b01#2 ++ 0b0#1 ++ 0b0000000#7 ++ 0x012C#16 ++ 0x000#12 ++ 0x9#4) = .ok (.retarget .ra 300) := by decide
theorem test_decode_wrJval : decode (0b01#2 ++ 0b1#1 ++ 0b0000011#7 ++ 0x00800000#32) = .ok (.wrJval .dc 0x800000) := by
  decide
theorem test_decode_wrTarget : decode (0b01#2 ++ 0b0#1 ++ 0b0000100#7 ++ 0x0000001E#32) = .ok (.wrTarget .ra 30) := by
  decide
theorem test_decode_wrTarget_ignores_upper : decode 0x1040001FFFE = .ok (.wrTarget .ra 0xFFFE) := by decide
theorem test_decode_wrHval : decode (0b01#2 ++ 0b1#1 ++ 0b0001001#7 ++ 0x00000100#32) = .ok (.wrHval .dc 0x100) := by
  decide
theorem test_decode_wrMode_e :
    decode (0b01#2 ++ 0b1#1 ++ 0b0001010#7 ++ 0#26 ++ 0b1#1 ++ 0b0#1 ++ 0x0#4) = .ok (.wrMode .dc 0 false true) := by
  decide
theorem test_decode_wrMode_d :
    decode (0b01#2 ++ 0b0#1 ++ 0b0001010#7 ++ 0#26 ++ 0b0#1 ++ 0b1#1 ++ 0x8#4) = .ok (.wrMode .ra 8 true false) := by
  decide
theorem test_decode_wrGotospeed :
    decode (0b01#2 ++ 0b1#1 ++ 0b0010000#7 ++ 0x00000010#32) = .ok (.wrGotospeed .dc 16) := by decide
theorem test_decode_wrSidereal :
    decode (0b01#2 ++ 0b0#1 ++ 0b0010001#7 ++ 0x000003E8#32) = .ok (.wrSidereal .ra 1000) := by decide
theorem test_decode_wrBval : decode (0b01#2 ++ 0b0#1 ++ 0b0010010#7 ++ 0x00009C40#32) = .ok (.wrBval .ra 40000) := by
  decide
theorem test_decode_wrAxcfg : decode (0b01#2 ++ 0b1#1 ++ 0b0010011#7 ++ 0x00000001#32) = .ok (.wrAxcfg .dc true) := by
  decide
theorem test_decode_wrAccel :
    decode (0b01#2 ++ 0b1#1 ++ 0b1000#4 ++ 0b000#3 ++ 0x00#8 ++ 0x01#8 ++ 0x012C#16) = .ok (.wrAccel .dc 0 300 1) := by
  decide
theorem test_decode_wrAccel_7 : decode 0x14700000000 = .ok (.wrAccel .ra 7 0 0) := by decide
theorem test_decode_wrGcfg :
    decode (0b01#2 ++ 0b0#1 ++ 0b1110000#7 ++ 0#18 ++ 0b0#1 ++ 0b1#1 ++ 0x0#4 ++ 0x20#8) =
      .ok (.wrGcfg .ra 32 0 true false) := by decide
theorem test_decode_wrGcfg_alias : decode 0x1F000002008 = .ok (.wrGcfg .dc 8 0 false true) := by decide

/-- The malformed CMD words of V36. -/
theorem test_reserved_cmd :
    decode 0x10000000000 = .error .malformedCmd ∧ decode 0x1000000000A = .error .malformedCmd ∧
    decode 0x1000000000F = .error .malformedCmd ∧ decode 0x10000000014 = .error .malformedCmd ∧
    decode 0x10000010004 = .error .malformedCmd ∧ decode 0x10000000090 = .error .malformedCmd := by decide

/-- The words of V37, and the writes of V34 to read-only and unmapped offsets. -/
theorem test_reserved_others :
    decode 0x30000000000 = .error .kind ∧ decode 0x380FFFFFFFF = .error .kind ∧
    decode 0x20000000001 = .error .malformedTick ∧ decode 0x28100000000 = .error .malformedTick ∧
    decode 0x20300000000 = .error .malformedTick ∧ decode 0x10100000000 = .error .notWritable ∧
    decode 0x18500000005 = .error .notWritable ∧ decode 0x11500000000 = .error .notWritable ∧
    decode 0x14800000000 = .error .notWritable ∧ decode 0x17100000000 = .error .notWritable := by decide

theorem test_encode_goto : encode (.goto .dc) = 0x18000000005 := by decide
theorem test_encode_wrAccel : encode (.wrAccel .dc 0 300 1) = 0x1C00001012C := by decide
theorem test_asm_wrMode : asmWrMode .dc 0 false true = 0x18A00000020 := by decide
theorem test_asm_wrAccel : asmWrAccel .dc 0 300 1 = 0x1C00001012C := by decide
theorem test_opTable_length : opTable.length = 21 := by decide

/-! ### One step each -/

/-- V33. -/
theorem test_rd_jval : answer (after (.rd .ra 0x03) State.reset) = some (.ok, 0x00800000) := by decide
theorem test_rd_accel5 : answer (after (.rd .ra 0x45) State.reset) = some (.ok, 0x0002000C) := by decide
/-- V33: SEQPOS, PINS and GCFG through the alias. -/
theorem test_rd_packed :
    State.reset.read .ra 0x0D = some 0x00010000 ∧ State.reset.read .ra 0x0F = some 0x04 ∧
    State.reset.read .dc 0x70 = some 0x00001020 := by decide
/-- V17. -/
theorem test_tick_timer_off : (after (.tick .ra) State.reset).ra.jVal = 0x800000 ∧
    (after (.tick .ra) State.reset).response = none := by decide
/-- V10, the first TICK. -/
theorem test_tick_rise :
    let a := (after (.tick .ra) (onRa slewing)).ra
    a.stepPin = true ∧ a.accelRepeatsLeft = 1 ∧ a.irqToNext = 1000 ∧ a.distributionSegment = 1 := by decide
/-- V14, the trigger's fall. -/
theorem test_tick_trigger :
    let a := (after (.tick .ra) (onRa { cruising with
      jVal := 0x8000EF, gotoTarget := 0x8000F0, gotoRunning := true, irqToNext := 1, stepPin := true,
      distributionSegment := 31 })).ra
    a.jVal = 0x8000F0 ∧ a.gotoDecelerating = true ∧ a.targetSpeed = 201 ∧ a.distributionSegment = 0 ∧
      a.irqToNext = 16 ∧ a.stopped = false := by decide
/-- V31. -/
theorem test_enable : State.read (after (.enable .ra) State.reset) .ra 0x01 = some 0x41 ∧
    State.read (after (.enable .ra) State.reset) .ra 0x0F = some 0 := by decide
theorem test_disable : State.read (after (.disable .ra) (after (.enable .ra) State.reset)) .ra 0x0F = some 0x04 := by
  decide
/-- V28b. -/
theorem test_configure_high_speed :
    let t := after (.configure .ra) (onRa { idle with GVal := 8, dir := true })
    t.read .ra 0x0B = some 0xFFFFFFF8 ∧ t.read .ra 0x01 = some 0x19 := by decide
/-- V28. -/
theorem test_configure_running : answer (after (.configure .ra) (onRa slewing)) = some (.notStopped, 0) := by decide
/-- V20. -/
theorem test_slew :
    let a := (after (.slew .ra) State.reset).ra
    a.stopSpeed = 1000 ∧ a.currentSpeed = 1000 ∧ a.accelRepeatsLeft = 2 ∧ a.timerOn = true ∧ a.irqToNext = 1 := by decide
/-- V28. -/
theorem test_slew_inconsistent :
    answer (after (.slew .ra) (onRa { idle with dir := true })) = some (.inconsistent, 0) := by decide
/-- V21. -/
theorem test_goto :
    let a := (after (.goto .ra) (onRa { idle with HVal := 0x100, GVal := 0 })).ra
    a.gotoTarget = 0x8000F0 ∧ a.decelLength = 16 ∧ a.targetSpeed = 16 ∧ a.currentSpeed = 200 ∧ a.stopSpeed = 200 := by
  decide
/-- V25: a reverse goto. -/
theorem test_goto_reverse :
    (after (.goto .ra) (onRa { idle with HVal := 1000, dir := true, stepDir := 0xFF })).ra.gotoTarget = 0x7FFC28 := by
  decide
/-- V27: START on a running axis faster than `minSpeed`. -/
theorem test_start_running :
    let a := (after (.start .ra) (onRa { cruising with currentSpeed := 30, accelIndex := 3, targetSpeed := 12 })).ra
    a.currentSpeed = 30 ∧ a.stopSpeed = 200 ∧ a.accelIndex = 3 ∧ a.irqToNext = 16 := by decide
/-- V31. -/
theorem test_stop : State.read (after (.stop .ra) State.reset) .ra 0x04 = some 1001 := by decide
/-- R154 and R159 on legal periods: RETARGET 0xFFFE, STOP and START reach a stop threshold of 0xFFFF (log entry 15). -/
theorem test_threshold_reaches_FFFF :
    (after (.start .ra) (after (.stop .ra) (after (.retarget .ra 0xFFFE) State.reset))).ra.stopSpeed = 0xFFFF := by decide
/-- V29. -/
theorem test_estop :
    let t := after (.estop .ra) (onRa { cruising with stepPin := true })
    t.read .ra 0x01 = some 0x01 ∧ t.read .ra 0x0F = some 0x05 := by decide
/-- V32. -/
theorem test_retarget : (after (.retarget .ra 500) State.reset).ra.targetSpeed = 500 ∧
    (after (.retarget .ra 500) State.reset).ra.stopSpeed = 1000 := by decide
theorem test_retarget_range : answer (after (.retarget .ra 0xFFFF) State.reset) = some (.range, 0) := by decide
/-- V34b: motion registers are not gated. -/
theorem test_wrJval : (after (.wrJval .dc 5) (onRa slewing)).dc.jVal = 5 := by decide
/-- V34. -/
theorem test_wrTarget_range : answer (after (.wrTarget .ra 0xFFFF) State.reset) = some (.range, 0) ∧
    (after (.wrTarget .ra 0xFFFF) State.reset).ra.err = 3 := by decide
theorem test_wrHval : State.read (after (.wrHval .dc 0x100) State.reset) .dc 0x09 = some 0x100 := by decide
/-- P2, statements 7 and 10. -/
theorem test_wrMode : State.read (after (.wrMode .dc 0 false true) State.reset) .dc 0x0A = some 0x20 := by decide
/-- V34b: BUSY before RANGE, on a stopped axis. -/
theorem test_wrGotospeed_busy : answer (after (.wrGotospeed .dc 0) (onRa slewing)) = some (.busy, 0) ∧
    (after (.wrGotospeed .dc 0) (onRa slewing)).dc.err = 4 := by decide
theorem test_wrGotospeed : (after (.wrGotospeed .dc 20) State.reset).dc.normalGotoSpeed = 20 := by decide
/-- V34, with the parameters of V35. -/
theorem test_wrSidereal : answer (State.reset.wrSidereal params35 .ra 1201) = some (.range, 0) ∧
    answer (State.reset.wrSidereal params35 .ra 0) = some (.range, 0) ∧
    answer (State.reset.wrSidereal params35 .ra 1200) = some (.ok, 0) := by decide
/-- V34. -/
theorem test_wrBval :
    State.read (after (.wrBval .ra 39000) State.reset) .ra 0x20 = some 206 ∧
    State.read (after (.wrBval .ra 39000) State.reset) .ra 0x21 = some 205 := by decide
theorem test_wrBval_range : answer (after (.wrBval .ra 0) State.reset) = some (.range, 0) := by decide
theorem test_wrAxcfg : (after (.wrAxcfg .dc true) State.reset).dc.reverse = true ∧
    (after (.wrAxcfg .dc true) State.reset).dc.dirPin = false := by decide
/-- V34. -/
theorem test_wrAccel : State.read (after (.wrAccel .ra 5 10 255) State.reset) .ra 0x45 = some 0x00FF000A := by decide
theorem test_wrAccel_range : answer (after (.wrAccel .ra 6 0x10 2) State.reset) = some (.range, 0) ∧
    answer (after (.wrAccel .ra 0 0xFFFF 2) State.reset) = some (.range, 0) := by decide
/-- V35. -/
theorem test_wrGcfg_range : answer (State.reset.wrGcfg params35 .ra ⟨32, 1, false, false⟩) = some (.range, 0) ∧
    answer (State.reset.wrGcfg params35 .ra ⟨3, 0, false, false⟩) = some (.range, 0) ∧
    answer (State.reset.wrGcfg params35 .ra ⟨32, 15, false, false⟩) = some (.range, 0) := by decide
theorem test_wrGcfg : State.read (State.reset.wrGcfg params35 .dc ⟨16, 1, false, false⟩) .ra 0x70 = some 0x110 := by
  decide
/-- V37: a reserved word answers ILLEGAL and sets `err` of its axis. -/
theorem test_step_reserved :
    let t := State.reset.reserved 0x380FFFFFFFF
    t.dc.err = 1 ∧ t.ra.err = 0 ∧ answer t = some (.illegal, 0) := by decide
/-- V4, V8 and V44b. -/
theorem test_rateTotal : rateTotal 3907 = 65523 ∧ rateTotal 62507 = 4096 ∧ rateTotal 16777215 = 15 := by decide
theorem test_decelLength_maximum :
    AxisState.decelLengthFull { idle with
      accel := Vector.replicate 6 ⟨200, 255⟩, stepDir := 8, highSpeedMode := true, normalGotoSpeed := 1 } = 30728 := by
  decide
/-- R205. -/
theorem test_statusWord : StatusWord.ofStatus 0x47 = ⟨true, false, false, false⟩ ∧
    StatusWord.ofStatus 0x38 = ⟨false, true, true, true⟩ := by decide
/-- R210: a period above 0xFFFE reaches the block, which answers RANGE and sets `err`. -/
theorem test_setPeriod_range :
    let h : HostState := ⟨.idle, .idle, false, false, false⟩
    ((SyntaCmd.expand .ra h (.setPeriod 0x10005)).run [] State.reset).map (fun r => (r.1.1, r.2.ra.err)) =
      some (.blockError .range, 3) := by decide
/-- R218, property 7: the force-stop of DC does nothing while RA is in a goto. -/
theorem test_forceStop_inert :
    (st4ForceStopDc.run [] (onRa { slewing with gotoRunning := true })).map Prod.fst = some .inert := by decide
/-- R222. -/
theorem test_bFudge : bFudge 40000 1000 = 40020 := by decide

/-! ### A state for every statement with hypotheses -/

/-- The machine with the given axis RA and inputs to come. -/
def withInput (a : AxisState) (l : List Input) : State := { onRa a with input := l }

/-- A configuration that is valid whatever the open parameters are. -/
def validConfig : ResetConfig :=
  { ra := { Config.bootAxis with siderealIVal := 1200 }
    dc := { Config.bootAxis with siderealIVal := 1200, reverse := true }
    glob := { microsteps := 16, driverFamily := Config.family498X, allowHighSpeed := true, allowAdvancedHC := false } }

theorem idle_legal : idle.Legal := by constructor <;> decide
theorem slewing_legal : slewing.Legal := by constructor <;> decide
theorem cruising_legal : cruising.Legal := by constructor <;> decide
theorem onRa_legal {a : AxisState} (h : a.Legal) : (onRa a).Legal := ⟨h, idle_legal, rfl⟩

/-- The 498x family with 16 microsteps is legal, whatever the open parameters are. -/
theorem gcfgLegal_498X : gcfgLegal Config.params 16 Config.family498X = true := by
  simp [gcfgLegal, Config.params_family]
  decide

theorem validConfig_valid : validConfig.Valid Config.params where
  bVal := by intro ax; cases ax <;> decide
  sidereal := by
    have := Config.params_minIval
    intro ax
    cases ax <;> exact ⟨this.2, by decide⟩
  gotoSpeed := by intro ax; cases ax <;> decide
  accel := by intro ax; cases ax <;> decide
  microsteps := by decide
  family := .inl rfl
  limit498X := fun _ => by decide

theorem witness_DecodeOfEncode : (Instr.wrAccel .dc 7 0xFFFF 255).wellFormed = true := by decide

theorem witness_EncodeOfDecode : decode 0x1F0FFFFE008 = .ok (.wrGcfg .dc 8 0 false true) := by decide

theorem witness_DecodeMatchesOpcodeTable :
    decode 0x100FFFF0009 = .ok (.retarget .ra 0xFFFF) ∧ decode 0x3FFFFFFFFFF = .error .kind := by decide

/-- One word for each kind of reserved word, at the bounds of the operation codes and offsets, and that word as the
next input. -/
theorem witness_ReservedWords :
    (0x30000000000 : TWord).kind = 3 ∧
    ((0x20100000000 : TWord).kind = 2 ∧ (0x20100000000 : TWord).offset.toNat ≠ 0) ∧
    ((0x20000000001 : TWord).kind = 2 ∧ (0x20000000001 : TWord).data ≠ 0) ∧
    ((0x10000000000 : TWord).kind = 1 ∧ (0x10000000000 : TWord).offset.toNat = 0 ∧
      (0x10000000000 : TWord).data.toNat % 16 = 0) ∧
    ((0x1000000000A : TWord).kind = 1 ∧ (0x1000000000A : TWord).offset.toNat = 0 ∧
      9 < (0x1000000000A : TWord).data.toNat % 16) ∧
    ((0x10000008001 : TWord).kind = 1 ∧ (0x10000008001 : TWord).offset.toNat = 0 ∧
      (0x10000008001 : TWord).data.toNat / 16 % 4096 ≠ 0) ∧
    ((0x10000010008 : TWord).kind = 1 ∧ (0x10000010008 : TWord).offset.toNat = 0 ∧
      (0x10000010008 : TWord).data.toNat % 16 ≠ 9 ∧ (0x10000010008 : TWord).data.toNat / 65536 ≠ 0) ∧
    ((0x14800000000 : TWord).kind = 1 ∧ (0x14800000000 : TWord).offset.toNat = 0x48) ∧
    (withInput idle [.word 0x30000000000]).input = .word 0x30000000000 :: [] := by decide

theorem witness_StepRunsDecoded :
    (withInput idle [.word 0x10000000004]).input = .word 0x10000000004 :: [] ∧
    decode 0x10000000004 = .ok (.slew .ra) ∧ decodeTableWord 48 0x10000000004 = some (.slew .ra) := by decide

theorem witness_IdleAndResetInput :
    State.reset.input = [] ∧ (withInput idle [.reset validConfig, .word 0]).input = .reset validConfig :: [.word 0] ∧
    validConfig.Valid Config.params := ⟨rfl, rfl, validConfig_valid⟩

theorem witness_ResetValues :
    (withInput cruising [.reset validConfig]).input = .reset validConfig :: [] ∧ validConfig.Valid Config.params :=
  ⟨rfl, validConfig_valid⟩

/-- A divisor of 0 makes a record invalid. -/
theorem witness_ResetRefused :
    let cfg : ResetConfig := { validConfig with ra := { validConfig.ra with bVal := 0 } }
    (withInput idle [.reset cfg]).input = .reset cfg :: [] ∧ ¬cfg.Valid Config.params :=
  ⟨rfl, fun h => absurd (h.bVal .ra) (by decide)⟩

theorem witness_StepKeepsLegal :
    ∃ t, (withInput slewing [.word 0x20000000000]).Legal ∧ step (withInput slewing [.word 0x20000000000]) = .next t :=
  ⟨_, ⟨slewing_legal, idle_legal, by decide⟩, rfl⟩

theorem witness_ValidResetIsLegal : validConfig.Valid Config.params := validConfig_valid

theorem witness_StepKeepsConfigLegal :
    ∃ t, (State.resetWith validConfig 0 1 [.word 0x10000000004]).ConfigLegal Config.params ∧
      step (State.resetWith validConfig 0 1 [.word 0x10000000004]) = .next t := by
  have h := Config.params_minIval
  refine ⟨_, ⟨?_, ?_, ?_⟩, rfl⟩
  · exact (siderealLegal_iff _ _).2 ⟨h.2, by decide⟩
  · exact (siderealLegal_iff _ _).2 ⟨h.2, by decide⟩
  · exact gcfgLegal_498X

theorem witness_TickTimerOff : (State.reset.axis .ra).timerOn = false := rfl

/-- Also at the wrap of the countdown. -/
theorem witness_TickCountdown :
    (cruising.timerOn = true ∧ cruising.irqToNext ≠ 1) ∧
    let a := { cruising with irqToNext := 0 }
    a.timerOn = true ∧ a.irqToNext ≠ 1 := by decide

/-- A fall that triggers, one that stops, and one that does neither. -/
theorem witness_TickFall :
    let a := { cruising with irqToNext := 1, stepPin := true }
    a.timerOn = true ∧ a.irqToNext = 1 ∧ a.stepPin = true ∧ a.currentSpeed.toNat ≤ a.stopSpeed.toNat ∧
    a.stopSpeed.toNat < { a with currentSpeed := 201 }.currentSpeed.toNat ∧
    a.jVal + 1 = { a with gotoRunning := true, gotoTarget := 0x800001 }.gotoTarget := by decide

theorem witness_TickDwell :
    slewing.timerOn = true ∧ slewing.irqToNext = 1 ∧ slewing.stepPin = false ∧ slewing.accelRepeatsLeft ≠ 0 := by decide

/-- At the top of the table; below it with an entry that overshoots; and with an entry equal to the target. -/
theorem witness_TickAccelerate :
    let a := { cruising with irqToNext := 1, targetSpeed := 5 }
    let b := { cruising with irqToNext := 1, currentSpeed := 20, accelIndex := 4 }
    let c := { cruising with irqToNext := 1, currentSpeed := 20, targetSpeed := 12, accelIndex := 4 }
    (a.timerOn = true ∧ a.irqToNext = 1 ∧ a.stepPin = false ∧ a.accelRepeatsLeft = 0 ∧
      a.targetSpeed.toNat < a.currentSpeed.toNat ∧ a.accelIndex.val = 5) ∧
    (b.timerOn = true ∧ b.irqToNext = 1 ∧ b.stepPin = false ∧ b.accelRepeatsLeft = 0 ∧
      b.targetSpeed.toNat < b.currentSpeed.toNat ∧ (5 : Fin 6).val = b.accelIndex.val + 1 ∧
      b.accel[5].speed.toNat < b.targetSpeed.toNat) ∧
    (c.timerOn = true ∧ c.irqToNext = 1 ∧ c.stepPin = false ∧ c.accelRepeatsLeft = 0 ∧
      c.targetSpeed.toNat < c.currentSpeed.toNat ∧ (5 : Fin 6).val = c.accelIndex.val + 1 ∧
      c.targetSpeed.toNat ≤ c.accel[5].speed.toNat) := by decide

/-- At the bottom of the table; above it with an entry past the target; and with an entry equal to the target. -/
theorem witness_TickDecelerate :
    let a := { cruising with irqToNext := 1, currentSpeed := 200, targetSpeed := 201, accelIndex := 0 }
    let b := { cruising with irqToNext := 1, targetSpeed := 18 }
    let c := { cruising with irqToNext := 1, targetSpeed := 20 }
    (a.timerOn = true ∧ a.irqToNext = 1 ∧ a.stepPin = false ∧ a.accelRepeatsLeft = 0 ∧
      a.currentSpeed.toNat < a.targetSpeed.toNat ∧ a.accelIndex.val = 0) ∧
    (b.timerOn = true ∧ b.irqToNext = 1 ∧ b.stepPin = false ∧ b.accelRepeatsLeft = 0 ∧
      b.currentSpeed.toNat < b.targetSpeed.toNat ∧ (4 : Fin 6).val + 1 = b.accelIndex.val ∧
      b.targetSpeed.toNat < b.accel[4].speed.toNat) ∧
    (c.timerOn = true ∧ c.irqToNext = 1 ∧ c.stepPin = false ∧ c.accelRepeatsLeft = 0 ∧
      c.currentSpeed.toNat < c.targetSpeed.toNat ∧ (4 : Fin 6).val + 1 = c.accelIndex.val ∧
      c.accel[4].speed.toNat ≤ c.targetSpeed.toNat) := by decide

theorem witness_TickCruise :
    let a := { cruising with irqToNext := 1 }
    a.timerOn = true ∧ a.irqToNext = 1 ∧ a.stepPin = false ∧ a.accelRepeatsLeft = 0 ∧
      a.currentSpeed = a.targetSpeed := by decide

theorem witness_PhaseLength : cruising.timerOn = true ∧ 0 < 15 ∧ 15 < cruising.irqToNext.toNat := by decide

theorem witness_SteadyMotion :
    cruising.timerOn = true ∧ cruising.stepPin = false ∧ cruising.irqToNext = cruising.currentSpeed ∧
    0 < cruising.currentSpeed.toNat ∧ cruising.currentSpeed = cruising.targetSpeed ∧
    cruising.currentSpeed.toNat ≤ cruising.stopSpeed.toNat ∧ cruising.accelRepeatsLeft = 0 ∧
    cruising.gotoRunning = false ∧
    (∀ k < 4, 1 ≤ k → BitVec.ofInt 24 (cruising.jVal.toNat + (k : Nat) * cruising.stepDir.toInt) ≠
      { cruising with gotoRunning := true, gotoTarget := 0x8000F0 }.gotoTarget) := by decide

/-- The axis right after a goto's trigger. -/
def decelerating : AxisState :=
  { cruising with
    targetSpeed := 201, jVal := 0x8000F0, gotoTarget := 0x8000F0, decelLength := 16, gotoRunning := true,
    gotoDecelerating := true }

theorem decelerating_legal : decelerating.Legal := by constructor <;> decide

theorem witness_DecelerationEnds :
    ((onRa decelerating).axis .ra).Legal ∧ decelerating.stopped = false ∧
    decelerating.stopSpeed.toNat < decelerating.targetSpeed.toNat := ⟨decelerating_legal, by decide, by decide⟩

theorem witness_DecelerationDistance :
    decelerating.Legal ∧ decelerating.stopped = false ∧ decelerating.stepPin = false ∧
    decelerating.accelRepeatsLeft = 0 ∧ decelerating.targetSpeed.toNat = decelerating.stopSpeed.toNat + 1 ∧
    decelerating.currentSpeed.toNat ≤ decelerating.stopSpeed.toNat ∧
    (decelerating.gotoRunning = false ∨ decelerating.gotoDecelerating = true) ∧
    (∀ i : Fin 6, i < decelerating.accelIndex → decelerating.accel[i.val].speed.toNat ≤ decelerating.stopSpeed.toNat) :=
  ⟨decelerating_legal, by decide, by decide, by decide, by decide, by decide, by decide, by decide⟩

/-- Scenario S2, on RA. -/
theorem witness_GotoLandsExactly :
    let a := { idle with HVal := 0x100, GVal := 0 }
    let b := decelerating
    ∃ v, a.Legal ∧ a.stopped = true ∧ a.dirConsistent = true ∧
      a.mag * a.decelSteps ≤ 0x100 / 2 / a.mag * a.mag ∧ exec (.goto .ra) (onRa a) = .next v ∧
      b.Legal ∧ b.gotoTarget = (v.axis .ra).gotoTarget ∧ b.stepDir = a.stepDir ∧ b.highSpeedMode = a.highSpeedMode ∧
      b.accel = a.accel ∧ b.normalGotoSpeed = a.normalGotoSpeed ∧ b.stopped = false ∧ b.gotoRunning = true ∧
      b.gotoDecelerating = true ∧ b.jVal = b.gotoTarget ∧ b.stepPin = false ∧ b.accelRepeatsLeft = 0 ∧
      b.targetSpeed.toNat = b.stopSpeed.toNat + 1 ∧ b.currentSpeed.toNat ≤ b.stopSpeed.toNat ∧
      b.accelIndex = b.cruiseIndex (b.normalGotoSpeed.setWidth 16) ∧
      (∀ i : Fin 6, i < b.accelIndex → b.accel[i.val].speed.toNat ≤ b.stopSpeed.toNat) :=
  ⟨_, by constructor <;> decide, rfl, by decide, by decide, rfl, decelerating_legal, by decide, rfl, rfl, rfl, rfl, rfl,
    rfl, rfl, rfl, rfl, rfl, by decide, by decide, by decide, by decide⟩

theorem witness_Configure : idle.stopped = true ∧ slewing.stopped = false := by decide

theorem witness_StartProcedure :
    let a := { cruising with currentSpeed := 200 }
    idle.stopped = true ∧
    (cruising.stopped = false ∧ cruising.currentSpeed.toNat < cruising.accel[0].speed.toNat) ∧
    (slewing.stopped = false ∧ slewing.accel[0].speed.toNat ≤ slewing.currentSpeed.toNat) ∧
    (a.stopped = false ∧ a.accel[0].speed.toNat ≤ a.currentSpeed.toNat) := by decide

theorem witness_StartAndSlew :
    let a := { idle with dir := true, stepDir := 0xF8, highSpeedMode := true }
    (idle.stepDir.toInt < 0 ↔ idle.dir = true) ∧
    (a.stepDir.toInt < 0 ↔ a.dir = true) := by decide

theorem witness_Goto :
    let a := { idle with HVal := 0x89, highSpeedMode := true, stepDir := 8 }
    a.stopped = true ∧ (a.stepDir.toInt < 0 ↔ a.dir = true) := by decide

theorem witness_StartRefusals :
    let a := { idle with dir := true }
    ¬(a.stepDir.toInt < 0 ↔ a.dir = true) ∧ a.stopped = true ∧ slewing.stopped = false := by decide

theorem witness_Retarget :
    (1 ≤ (1 : BitVec 16).toNat ∧ (1 : BitVec 16).toNat ≤ 0xFFFE) ∧
    (1 ≤ (0xFFFE : BitVec 16).toNat ∧ (0xFFFE : BitVec 16).toNat ≤ 0xFFFE) ∧
    ((0 : BitVec 16) = 0 ∨ (0 : BitVec 16) = 0xFFFF) ∧ ((0xFFFF : BitVec 16) = 0 ∨ (0xFFFF : BitVec 16) = 0xFFFF) := by
  decide

/-- The bounds of every range of offsets. -/
theorem witness_RdIllegal :
    (0 : BitVec 7).toNat = 0 ∧ 0x15 ≤ (0x15 : BitVec 7).toNat ∧ (0x1F : BitVec 7).toNat ≤ 0x1F ∧
    0x46 ≤ (0x46 : BitVec 7).toNat ∧ (0x6F : BitVec 7).toNat ≤ 0x6F ∧ 0x71 ≤ (0x71 : BitVec 7).toNat ∧
    0x71 ≤ (0x7F : BitVec 7).toNat := by decide

theorem witness_WrMotion :
    (1 ≤ (1 : BitVec 16).toNat ∧ (0xFFFE : BitVec 16).toNat ≤ 0xFFFE) ∧
    ((0xFFFF : BitVec 16) = 0 ∨ (0xFFFF : BitVec 16) = 0xFFFF) := by decide

theorem witness_WrConfig :
    State.reset.ra.stopped = true ∧ State.reset.dc.stopped = true ∧ 1 ≤ (1 : BitVec 8).toNat ∧
    (Config.params.minIval ≤ (1200 : BitVec 16).toNat ∧ (1200 : BitVec 16).toNat ≤ 1200) ∧
    1 ≤ (1 : BitVec 24).toNat ∧ 1 ≤ (1 : BitVec 16).toNat ∧ (0xFFFE : BitVec 16).toNat ≤ 0xFFFE :=
  ⟨rfl, rfl, by decide, ⟨Config.params_minIval.2, by decide⟩, by decide, by decide, by decide⟩

theorem witness_WrGcfg :
    State.reset.ra.stopped = true ∧ State.reset.dc.stopped = true ∧
    (16 : BitVec 8).toNat ∈ [1, 2, 4, 8, 16, 32] ∧
    (Config.family498X = Config.family498X ∨ Config.family498X ∈ Config.otherFamilies) ∧
    (Config.family498X = Config.family498X → (16 : BitVec 8).toNat ≤ 16) :=
  ⟨rfl, rfl, by decide, .inl rfl, fun _ => by decide⟩

/-- Each instruction with a value just outside its range; a family outside DRIVER_FAMILIES may not exist, so the
microstep count stands for WR.GCFG. -/
theorem witness_WrConfigRange :
    State.reset.ra.stopped = true ∧ State.reset.dc.stopped = true ∧
    Instr.wrGotospeed .ra 0 = .wrGotospeed .ra 0 ∧
    ((0 : BitVec 16).toNat < Config.params.minIval ∨ 1200 < (0 : BitVec 16).toNat) ∧
    ((1201 : BitVec 16).toNat < Config.params.minIval ∨ 1200 < (1201 : BitVec 16).toNat) ∧
    5 < 6 ∧ (0 : BitVec 16) = 0 ∧ (0xFFFF : BitVec 16) = 0xFFFF ∧ (3 : BitVec 8).toNat ∉ [1, 2, 4, 8, 16, 32] ∧
    (Config.family498X = Config.family498X ∧ 16 < (32 : BitVec 8).toNat) :=
  ⟨rfl, rfl, rfl, .inl Config.params_minIval.1, .inr (by decide), by decide, rfl, rfl, by decide, rfl, by decide⟩

/-- BUSY through the other axis alone. -/
theorem witness_ConfigBusy :
    (onRa slewing).ra.stopped = false ∧ (onRa slewing).dc.stopped = true ∧
    ∃ b, Instr.wrBval .dc 0 = .wrBval .dc b := ⟨rfl, rfl, 0, rfl⟩

theorem witness_ReadsOwnWrites :
    (∃ t, exec (.wrAccel .ra 0 300 1) State.reset = .next t ∧ t.response = some ⟨.ok, 0⟩) ∧
    (∃ t, exec (.wrAccel .ra 5 300 1) State.reset = .next t ∧ t.response = some ⟨.ok, 0⟩) ∧
    (∃ t, exec (.wrMode .ra 8 true true) (onRa slewing) = .next t ∧ t.response = some ⟨.ok, 0⟩) ∧
    ∃ t, exec (.wrAxcfg .dc true) State.reset = .next t ∧ t.response = some ⟨.ok, 0⟩ :=
  ⟨⟨_, rfl, by decide⟩, ⟨_, rfl, by decide⟩, ⟨_, rfl, by decide⟩, ⟨_, rfl, by decide⟩⟩

theorem witness_ReadsOwnWrites_gcfg :
    ∃ t, exec (.wrGcfg .ra 16 Config.family498X true false) State.reset = .next t ∧
      t.response = some ⟨.ok, 0⟩ := by
  refine ⟨_, rfl, ?_⟩
  simp only [State.wrGcfg, gcfgLegal_498X]
  rfl

theorem witness_EmergencyStopCommand :
    (HostState.boot true validConfig).programming = false ∧ (HostState.boot false validConfig).programming = true := by
  have h : resetConfigLegal Config.params validConfig = true := by
    have hs : siderealLegal Config.params 1200 = true :=
      (siderealLegal_iff _ _).2 ⟨Config.params_minIval.2, by decide⟩
    have ha : (Config.accelA.all fun e => speedLegal e.speed) = true := by
      rw [Vector.all_eq_true]; decide
    have hx : ∀ c : AxisConfig, c.bVal = 40000 → c.siderealIVal = 1200 → c.normalGotoSpeed = 16 →
        c.accel = Config.accelA → axisConfigLegal Config.params c = true := by
      intro c h1 h2 h3 h4
      simp only [axisConfigLegal, h1, h2, h3, h4, hs, ha]
      decide
    rw [resetConfigLegal, hx _ rfl rfl rfl rfl, hx _ rfl rfl rfl rfl]
    exact gcfgLegal_498X
  simp [HostState.boot, h]

theorem witness_WritesIdempotent : ∃ ax b, Instr.wrBval .dc 39000 = .wrBval ax b := ⟨_, _, rfl⟩

theorem witness_ErrHoldsLastCode :
    (Instr.enable .ra).writesErr = true ∧ (Instr.tick .ra).writesErr = false := by decide

theorem witness_RejectedChangesOnlyErr :
    (∃ t, exec (.wrTarget .ra 0) State.reset = .next t ∧ t.response = some ⟨.range, 0⟩ ∧ Code.range ≠ .ok) ∧
    ∃ t, exec (.rd .ra 0x15) State.reset = .next t ∧ t.response = some ⟨.illegal, 0⟩ ∧ Code.illegal ≠ .ok :=
  ⟨⟨_, rfl, by decide, by decide⟩, ⟨_, rfl, by decide, by decide⟩⟩

theorem witness_CodesPerInstruction : (Instr.tick .ra).codes = [] ∧ (Instr.goto .ra).codes ≠ [] := by decide

/-- Two states that differ in DC's position, and an instruction of RA. -/
theorem witness_AxesIndependent :
    let s := onRa slewing
    let s' := { onRa slewing with dc := { idle with jVal := 0 } }
    s.axis .ra = s'.axis .ra ∧ s.glob = s'.glob ∧ (s.axis .dc).stopped = (s'.axis .dc).stopped ∧
      (∃ t, exec (.tick .ra) s = .next t) ∧ (∃ t, exec (.tick .ra) s' = .next t) ∧
      ∀ ax m f h a, Instr.tick .ra ≠ .wrGcfg ax m f h a :=
  ⟨rfl, rfl, rfl, ⟨_, rfl⟩, ⟨_, rfl⟩, by simp⟩

/-- A fall and a write of JVAL. -/
theorem witness_JValWriters :
    (∃ t, exec (.tick .ra) (onRa { slewing with stepPin := true }) = .next t ∧
      (t.axis .ra).jVal ≠ (onRa { slewing with stepPin := true }).ra.jVal) ∧
    ∃ t, exec (.wrJval .ra 5) State.reset = .next t ∧ (t.axis .ra).jVal ≠ State.reset.ra.jVal :=
  ⟨⟨_, rfl, by decide⟩, ⟨_, rfl, by decide⟩⟩

theorem witness_SingleWriters :
    (∃ t, exec (.stop .ra) State.reset = .next t) ∧ Instr.stop .ra ≠ .configure .ra ∧ Instr.stop .ra ≠ .goto .ra ∧
    Instr.stop .ra ≠ .enable .ra ∧ Instr.stop .ra ≠ .disable .ra ∧ Instr.stop .ra ≠ .tick .ra :=
  ⟨⟨_, rfl⟩, by decide, by decide, by decide, by decide, by decide⟩

theorem witness_ConfigFrozenWhileRunning :
    (onRa slewing).ra.stopped = false ∧ ∃ t, exec (.wrBval .dc 39000) (onRa slewing) = .next t := ⟨rfl, _, rfl⟩

/-- A fall that stops the axis, and SLEW that starts it. -/
theorem witness_ArmAndDisarm :
    (∃ t, exec (.tick .ra) (onRa { cruising with irqToNext := 1, stepPin := true, currentSpeed := 201 }) = .next t ∧
      cruising.stopped = false ∧ (t.axis .ra).stopped = true) ∧
    ∃ t, exec (.slew .ra) State.reset = .next t ∧ State.reset.ra.stopped = true ∧ (t.axis .ra).stopped = false :=
  ⟨⟨_, rfl, by decide, by decide⟩, ⟨_, rfl, by decide, by decide⟩⟩

theorem witness_DirPinStable :
    ∃ t, (onRa slewing).Legal ∧ (onRa slewing).ra.stopped = false ∧ exec (.start .ra) (onRa slewing) = .next t :=
  ⟨_, onRa_legal slewing_legal, rfl, rfl⟩

/-- The divisors where the table clamps and where it does not. -/
theorem witness_RateTable :
    (122 : BitVec 24) ≠ 0 ∧ (123 : BitVec 24) ≠ 0 ∧ (62507 : BitVec 24) ≠ 0 ∧ (62508 : BitVec 24) ≠ 0 ∧
    32 * 65535 < rateTotal 122 ∧ rateTotal 62508 < 32 * 128 ∧
    (32 * 128 ≤ rateTotal 12345 ∧ rateTotal 12345 ≤ 32 * 65535 ∧ 0 < rateTotal 12345 % 32) := by decide

end Sys2Proof.Tests
end

/-! ### The packed layouts (10_state.md R51 to R55), field by field -/

namespace Sys2Proof.Machine

open Sys2Proof

/-- The word `x` is the number `v`, and no bit at or above place `n` is set: what the layouts keep while fields are put
in from the low end. -/
def PackedBelow {w : Nat} (x : BitVec w) (n v : Nat) : Prop := x.toNat = v ∧ v < 2 ^ n

section PackedBelow

variable {w k n v : Nat} {x : BitVec w}

theorem packedBelow_setWidth (y : BitVec k) (h : k ≤ w) : PackedBelow (y.setWidth w) k y.toNat :=
  ⟨BitVec.toNat_setWidth_of_le h, y.isLt⟩

theorem packedBelow_setWidth_ofBool (b : Bool) (h : 1 ≤ w) :
    PackedBelow ((BitVec.ofBool b).setWidth w) 1 b.toNat := by
  simpa only [BitVec.toNat_ofBool] using packedBelow_setWidth (BitVec.ofBool b) h

/-- A field put in at place `n`, above all that is there, adds its value times `2 ^ n`. -/
theorem PackedBelow.or_field (hx : PackedBelow x n v) (y : BitVec k) (h : n + k ≤ w) :
    PackedBelow (x ||| y.setWidth w <<< n) (n + k) (v + 2 ^ n * y.toNat) := by
  obtain ⟨hval, hlt⟩ := hx
  have hfield : v + 2 ^ n * y.toNat < 2 ^ (n + k) := by
    calc v + 2 ^ n * y.toNat < 2 ^ n * (y.toNat + 1) := by rw [Nat.mul_succ]; omega
      _ ≤ 2 ^ n * 2 ^ k := Nat.mul_le_mul_left _ y.isLt
      _ = 2 ^ (n + k) := (Nat.pow_add 2 n k).symm
  have hword : 2 ^ n * y.toNat < 2 ^ w :=
    calc 2 ^ n * y.toNat ≤ v + 2 ^ n * y.toNat := Nat.le_add_left _ _
      _ < 2 ^ (n + k) := hfield
      _ ≤ 2 ^ w := Nat.pow_le_pow_right (by decide) h
  refine ⟨?_, hfield⟩
  rw [BitVec.toNat_or, BitVec.toNat_shiftLeft, BitVec.toNat_setWidth_of_le (by omega), hval, Nat.shiftLeft_eq,
    Nat.mul_comm y.toNat, Nat.mod_eq_of_lt hword, Nat.or_comm, ← Nat.two_pow_add_eq_or_of_lt hlt, Nat.add_comm]

theorem PackedBelow.or_bit (hx : PackedBelow x n v) (b : Bool) (h : n + 1 ≤ w) :
    PackedBelow (x ||| (BitVec.ofBool b).setWidth w <<< n) (n + 1) (v + 2 ^ n * b.toNat) := by
  simpa only [BitVec.toNat_ofBool] using hx.or_field (BitVec.ofBool b) h

theorem PackedBelow.mono {m : Nat} (hx : PackedBelow x n v) (h : n ≤ m) : PackedBelow x m v :=
  ⟨hx.1, hx.2.trans_le (Nat.pow_le_pow_right (by decide) h)⟩

/-- The same for a layout that names its high field, at place 16, first. -/
theorem PackedBelow.high_or_toNat (hx : PackedBelow x 16 v) (y : BitVec k) (h : 16 + k ≤ w) :
    (y.setWidth w <<< 16 ||| x).toNat = 65536 * y.toNat + v := by
  rw [BitVec.or_comm, (hx.or_field y h).1, Nat.add_comm, show 2 ^ 16 = 65536 from rfl]

end PackedBelow

theorem AxisState.status_toNat (a : AxisState) :
    a.status.toNat = a.stopped.toNat + 2 * a.gotoRunning.toNat + 4 * a.gotoDecelerating.toNat +
      8 * a.highSpeedMode.toNat + 16 * a.dir.toNat + 32 * a.gotoEn.toNat + 64 * a.enabled.toNat +
      128 * a.timerOn.toNat :=
  (packedBelow_setWidth_ofBool a.stopped (by decide) |>.or_bit a.gotoRunning (by decide)
    |>.or_bit a.gotoDecelerating (by decide) |>.or_bit a.highSpeedMode (by decide) |>.or_bit a.dir (by decide)
    |>.or_bit a.gotoEn (by decide) |>.or_bit a.enabled (by decide) |>.or_bit a.timerOn (by decide)).1

theorem AxisState.mode_toNat (a : AxisState) :
    a.mode.toNat = a.GVal.toNat + 16 * a.dir.toNat + 32 * a.gotoEn.toNat :=
  (packedBelow_setWidth a.GVal (by decide) |>.or_bit a.dir (by decide) |>.or_bit a.gotoEn (by decide)).1

theorem AxisState.pins_toNat (a : AxisState) :
    a.pins.toNat = a.stepPin.toNat + 2 * a.dirPin.toNat + 4 * a.enablePin.toNat + 8 * a.modeSel.toNat +
      16 * a.timerOn.toNat :=
  (packedBelow_setWidth_ofBool a.stepPin (by decide) |>.or_bit a.dirPin (by decide)
    |>.or_bit a.enablePin (by decide) |>.or_bit a.modeSel (by decide) |>.or_bit a.timerOn (by decide)).1

theorem gcfgWord_toNat (g : GlobalConfig) :
    (gcfgWord g).toNat = g.microsteps.toNat + 256 * g.driverFamily.toNat + 4096 * g.allowHighSpeed.toNat +
      8192 * g.allowAdvancedHC.toNat :=
  (packedBelow_setWidth g.microsteps (by decide) |>.or_field g.driverFamily (by decide)
    |>.or_bit g.allowHighSpeed (by decide) |>.or_bit g.allowAdvancedHC (by decide)).1

theorem AxisState.accelPos_toNat (a : AxisState) :
    a.accelPos.toNat = 65536 * a.accelRepeatsLeft.toNat + a.accelIndex.val := by
  have hindex : PackedBelow (BitVec.ofNat 32 a.accelIndex.val) 16 a.accelIndex.val :=
    ⟨by simp only [BitVec.toNat_ofNat]; omega, by omega⟩
  exact hindex.high_or_toNat a.accelRepeatsLeft (by decide)

theorem AxisState.seqPos_toNat (a : AxisState) :
    a.seqPos.toNat = 65536 * a.irqToNext.toNat + a.distributionSegment.toNat :=
  packedBelow_setWidth a.distributionSegment (by decide) |>.mono (by decide) |>.high_or_toNat a.irqToNext (by decide)

theorem accelWord_toNat (e : AccelEntry) : (accelWord e).toNat = 65536 * e.repeats.toNat + e.speed.toNat :=
  packedBelow_setWidth e.speed (by decide) |>.high_or_toNat e.repeats (by decide)

/-! ### RD of a register -/

theorem Reg.offset_accel (i : Fin 6) : (Reg.accel i).offset = BitVec.ofNat 7 (0x40 + i.val) :=
  (BitVec.ofNat_add 0x40 i.val).symm

/-- RD of a readable register answers OK with what `readReg` says and changes no state (44_register_access.md R180). -/
theorem exec_rd_readable (s : State) (ax : Axis) (r : Reg) (h : r.readable = true) :
    exec (.rd ax r.offset) s = .next { s with response := some ⟨.ok, s.readReg ax r⟩ } := by
  simp only [exec, execRd, State.read_of_reg s ax r h, State.respond]

/-- RD of a register whose value is the word `x`, zero-extended, answers the number that `x` holds. -/
theorem exec_rd_zeroExtended {w v : Nat} (s : State) (ax : Axis) (r : Reg) {x : BitVec w} (h : r.readable = true)
    (hread : s.readReg ax r = x.setWidth 32) (hx : x.toNat = v) :
    exec (.rd ax r.offset) s = .next { s with response := some ⟨.ok, BitVec.ofNat 32 v⟩ } := by
  rw [exec_rd_readable s ax r h, hread, ← hx, BitVec.ofNat_toNat]

/-- Settles O37: each packed register reads the number its layout lemma gives; STEPDIR alone is sign-extended. -/
theorem rdPacked : Obligations.RdPacked := by
  intro s ax
  refine ⟨?status, ?mode, ?stepdir, ?accelpos, ?seqpos, ?pins, ?accel, ?gcfg⟩
  case status => exact exec_rd_zeroExtended s ax .status rfl rfl (s.axis ax).status_toNat
  case mode => exact exec_rd_zeroExtended s ax .mode rfl rfl (s.axis ax).mode_toNat
  case stepdir => exact exec_rd_readable s ax .stepdir rfl
  case accelpos =>
    exact exec_rd_zeroExtended s ax .accelpos rfl (BitVec.setWidth_eq _).symm (s.axis ax).accelPos_toNat
  case seqpos => exact exec_rd_zeroExtended s ax .seqpos rfl (BitVec.setWidth_eq _).symm (s.axis ax).seqPos_toNat
  case pins => exact exec_rd_zeroExtended s ax .pins rfl rfl (s.axis ax).pins_toNat
  case accel =>
    intro i
    rw [← Reg.offset_accel i]
    exact exec_rd_zeroExtended s ax (.accel i) rfl rfl (accelWord_toNat _)
  case gcfg => exact exec_rd_zeroExtended s ax .gcfg rfl rfl (gcfgWord_toNat s.glob)

/-! ### Reset with a configuration record (70_reset_and_hazards.md R260, R261) -/

theorem bne_zero_iff_one_le_toNat {w : Nat} (v : BitVec w) : (v != 0) = true ↔ 1 ≤ v.toNat := by
  simp [BitVec.toNat_eq]; omega

theorem bValLegal_iff (b : BitVec 24) : bValLegal b = true ↔ 1 ≤ b.toNat := bne_zero_iff_one_le_toNat b

theorem gotoSpeedLegal_iff (v : BitVec 8) : gotoSpeedLegal v = true ↔ 1 ≤ v.toNat := bne_zero_iff_one_le_toNat v

theorem microstepsLegal_iff (m : BitVec 8) : microstepsLegal m = true ↔ m.toNat ∈ [1, 2, 4, 8, 16, 32] := by
  simp [microstepsLegal, BitVec.toNat_eq, or_assoc]

theorem isFamily_iff (p : Params) (f : BitVec 4) :
    p.isFamily f = true ↔ f = p.family498X ∨ f ∈ p.otherFamilies := by
  simp [Params.isFamily]

theorem gcfgLegal_iff (p : Params) (m : BitVec 8) (f : BitVec 4) :
    gcfgLegal p m f = true ↔ m.toNat ∈ [1, 2, 4, 8, 16, 32] ∧ (f = p.family498X ∨ f ∈ p.otherFamilies) ∧
      (f = p.family498X → m.toNat ≤ 16) := by
  rw [gcfgLegal, Bool.and_eq_true, Bool.and_eq_true, microstepsLegal_iff, isFamily_iff, and_assoc]
  have hlimit : (!(f == p.family498X && decide (16 < m.toNat))) = true ↔ (f = p.family498X → m.toNat ≤ 16) := by
    simp [imp_iff_not_or]
  rw [hlimit]

theorem axisConfigLegal_iff (p : Params) (c : AxisConfig) :
    axisConfigLegal p c = true ↔ 1 ≤ c.bVal.toNat ∧ (p.minIval ≤ c.siderealIVal.toNat ∧ c.siderealIVal.toNat ≤ 1200) ∧
      1 ≤ c.normalGotoSpeed.toNat ∧
      ∀ i : Fin 6, 1 ≤ c.accel[i.val].speed.toNat ∧ c.accel[i.val].speed.toNat ≤ 0xFFFE := by
  simp only [axisConfigLegal, Bool.and_eq_true, bValLegal_iff, siderealLegal_iff, gotoSpeedLegal_iff,
    Vector.all_eq_true, speedLegal_iff, Fin.forall_iff, and_assoc]

/-- The executable check of a record and the list of its checks in R261 agree. -/
theorem resetConfigLegal_iff_valid (p : Params) (cfg : ResetConfig) :
    resetConfigLegal p cfg = true ↔ cfg.Valid p := by
  rw [resetConfigLegal, Bool.and_eq_true, Bool.and_eq_true, axisConfigLegal_iff, axisConfigLegal_iff, gcfgLegal_iff]
  constructor
  · rintro ⟨⟨⟨hb, hs, hg, ha⟩, ⟨hb', hs', hg', ha'⟩⟩, hm, hf, hl⟩
    exact
      { bVal := Axis.rec hb hb'
        sidereal := Axis.rec hs hs'
        gotoSpeed := Axis.rec hg hg'
        accel := Axis.rec ha ha'
        microsteps := hm
        family := hf
        limit498X := hl }
  · intro h
    exact ⟨⟨⟨h.bVal .ra, h.sidereal .ra, h.gotoSpeed .ra, h.accel .ra⟩,
      h.bVal .dc, h.sidereal .dc, h.gotoSpeed .dc, h.accel .dc⟩, h.microsteps, h.family, h.limit498X⟩

theorem step_of_input_reset {s : State} {cfg : ResetConfig} {rest : List Input} (h : s.input = .reset cfg :: rest) :
    step s = { s with input := rest }.applyReset cfg := by
  simp only [step, h, State.deliver]

/-- A valid record makes every part of the machine new but the inputs still to come and the axes' own counters. -/
theorem step_reset_valid {s : State} {cfg : ResetConfig} {rest : List Input} (h : s.input = .reset cfg :: rest)
    (hv : cfg.Valid Config.params) :
    step s = .next (State.resetWith cfg s.ra.freeCount s.dc.freeCount rest) := by
  rw [step_of_input_reset h, State.applyReset, if_pos ((resetConfigLegal_iff_valid _ _).2 hv)]

/-- After a reset each axis holds the values of its own part of the record (10_state.md R58). -/
theorem State.resetWith_axis (cfg : ResetConfig) (m n : Nat) (input : List Input) (ax : Axis) :
    (State.resetWith cfg m n input).axis ax =
      AxisState.resetWith (cfg.axis ax) ((State.resetWith cfg m n input).axis ax).freeCount := by
  cases ax <;> rfl

/-- Settles O8: the step is the reset with that record, and each axis takes its own part of it. -/
theorem resetValues : Obligations.ResetValues := by
  intro s cfg rest hin hvalid
  exact ⟨_, step_reset_valid hin hvalid, rfl, State.resetWith_axis cfg _ _ rest⟩

end Sys2Proof.Machine

/-! ### The words the decoder refuses (30_encoding.md R87, R90, R91) -/

namespace Sys2Proof

section Refusal

variable {ρ ι : Type} {c : Prop} [Decidable c]

/-- A test that decodes where it holds: the decoder refuses where it fails and the later tests refuse. -/
theorem exists_error_ite_ok (i : ι) (rest : Except ρ ι) :
    (∃ e, (if c then .ok i else rest) = .error e) ↔ ¬c ∧ ∃ e, rest = .error e := by
  by_cases h : c <;> simp [h]

/-- A test that refuses where it holds: the decoder refuses there and where the later tests refuse. -/
theorem exists_error_ite_error (r : ρ) (rest : Except ρ ι) :
    (∃ e, (if c then .error r else rest) = .error e) ↔ c ∨ ∃ e, rest = .error e := by
  by_cases h : c <;> simp [h]

theorem exists_error_eq_error (r : ρ) : (∃ e, (.error r : Except ρ ι) = .error e) ↔ True :=
  iff_true_intro ⟨r, rfl⟩

end Refusal

/-- A CMD write is refused for a reserved OP, a reserved bit, or an operand of an operation that takes none (R87). -/
theorem decodeCmd_error_iff (ax : Axis) (data : BitVec 32) :
    (∃ e, decodeCmd ax data = .error e) ↔
      data.toNat % 16 = 0 ∨ 9 < data.toNat % 16 ∨ data.toNat / 16 % 4096 ≠ 0 ∨
        (data.toNat % 16 ≠ 9 ∧ data.toNat / 65536 ≠ 0) := by
  have hlt : data.toNat < 4294967296 := data.isLt
  simp only [decodeCmd, exists_error_ite_ok, exists_error_ite_error, exists_error_eq_error, ne_eq, BitVec.toNat_eq,
    BitVec.extractLsb'_toNat, Nat.shiftRight_eq_div_pow, BitVec.reduceToNat, Nat.reducePow,
    Nat.div_one, and_true]
  omega

/-- A WR of a register is refused at every offset that R190 does not list as writable; the decoder reads the ACCEL
entries by their field ADDR[6:3], which stands for offsets 0x40 to 0x47 (R82). -/
theorem decodeWr_error_iff (ax : Axis) (offset : BitVec 7) (data : BitVec 32) :
    (∃ e, decodeWr ax offset data = .error e) ↔
      offset.toNat ∉ [0x03, 0x04, 0x09, 0x0A, 0x10, 0x11, 0x12, 0x13, 0x40, 0x41, 0x42, 0x43, 0x44, 0x45, 0x46, 0x47,
        0x70] := by
  have hlt : offset.toNat < 128 := offset.isLt
  simp only [decodeWr, exists_error_ite_ok, exists_error_eq_error, BitVec.toNat_eq, BitVec.extractLsb'_toNat,
    Nat.shiftRight_eq_div_pow, BitVec.reduceToNat, List.mem_cons, List.not_mem_nil, or_false, and_true,
    not_or]
  omega

section Decode

variable {w : TWord}

theorem decode_of_kind_read (h : w.kind = 0) : decode w = .ok (.rd (Axis.ofBit w.axisBit) w.offset) := by
  simp [decode, h]

theorem decode_of_kind_write (h : w.kind = 1) :
    decode w = if w.offset = 0x00 then decodeCmd (Axis.ofBit w.axisBit) w.data
      else decodeWr (Axis.ofBit w.axisBit) w.offset w.data := by
  simp [decode, h]

theorem decode_of_kind_tick (h : w.kind = 2) :
    decode w = if w.offset = 0 ∧ w.data = 0 then .ok (.tick (Axis.ofBit w.axisBit)) else .error .malformedTick := by
  simp [decode, h]

theorem decode_of_kind_reserved (h : w.kind = 3) : decode w = .error .kind := by
  simp [decode, h]

theorem TWord.kind_cases (w : TWord) : w.kind = 0 ∨ w.kind = 1 ∨ w.kind = 2 ∨ w.kind = 3 := by
  bv_omega

/-- A WR word is refused as a CMD write at offset 0, and elsewhere as a WR of a register. -/
theorem decode_error_iff_of_kind_write (h : w.kind = 1) :
    (∃ e, decode w = .error e) ↔
      (w.offset.toNat = 0 ∧ (w.data.toNat % 16 = 0 ∨ 9 < w.data.toNat % 16 ∨ w.data.toNat / 16 % 4096 ≠ 0 ∨
        (w.data.toNat % 16 ≠ 9 ∧ w.data.toNat / 65536 ≠ 0))) ∨
      w.offset.toNat ∉ [0x00, 0x03, 0x04, 0x09, 0x0A, 0x10, 0x11, 0x12, 0x13, 0x40, 0x41, 0x42, 0x43, 0x44, 0x45,
        0x46, 0x47, 0x70] := by
  rw [decode_of_kind_write h]
  by_cases hoff : w.offset = 0
  · rw [if_pos hoff, decodeCmd_error_iff]
    simp [hoff]
  · have hne : w.offset.toNat ≠ 0 := by simpa [BitVec.toNat_eq] using hoff
    rw [if_neg hoff, decodeWr_error_iff, List.mem_cons (a := w.offset.toNat) (b := 0x00)]
    simp only [hne, false_and, false_or]

theorem decode_error_iff_of_kind_tick (h : w.kind = 2) :
    (∃ e, decode w = .error e) ↔ w.offset.toNat ≠ 0 ∨ w.data ≠ 0 := by
  rw [decode_of_kind_tick h, exists_error_ite_ok, exists_error_eq_error, and_true, not_and_or, BitVec.toNat_eq]
  rfl

end Decode

end Sys2Proof

namespace Sys2Proof.Machine

open Sys2Proof

/-- The step's answer to a word the decoder refuses: ILLEGAL in `err` of the word's axis and in the response, and no
other change (30_encoding.md R91, 60_exceptions.md R232). -/
theorem step_of_decode_error {s : State} {w : TWord} {rest : List Input} {e : Reserved}
    (hin : s.input = .word w :: rest) (he : decode w = .error e) :
    step s = .next ({ s with input := rest }.finish (Axis.ofBit w.axisBit) .illegal) := by
  simp only [step, hin, State.deliver_word_error _ he]

/-- Ending a transaction with a code writes that code to `err` of its axis and to the response, with data 0. -/
theorem State.wrote_finish (s : State) (ax : Axis) (c : Code) :
    State.Wrote s (s.finish ax c) ax { s.axis ax with err := c.bits } c where
  axis := s.finish_axis ax c
  other := s.finish_other ax c
  glob := s.finish_glob ax c
  input := s.finish_input ax c
  response := s.finish_response ax c

/-- Settles O4: the refused words are found kind by kind, in the order of R90, and the step rejects each as ILLEGAL. -/
theorem reservedWords : Obligations.ReservedWords := by
  intro w off op reserved
  have hiff : (∃ e, decode w = .error e) ↔ reserved := by
    obtain hk | hk | hk | hk := w.kind_cases
    · simp [reserved, hk, decode_of_kind_read hk]
    · simp [reserved, hk, decode_error_iff_of_kind_write hk, off, op]
    · simp [reserved, hk, decode_error_iff_of_kind_tick hk, off]
    · simp [reserved, hk, decode_of_kind_reserved hk]
  refine ⟨hiff, fun s rest hres hin => ?_⟩
  obtain ⟨e, he⟩ := hiff.mpr hres
  exact ⟨_, step_of_decode_error hin he, State.wrote_finish _ (Axis.ofBit w.axisBit) .illegal⟩

end Sys2Proof.Machine

/-! ### The slots of the rate table (40_rate_table.md R101) -/

namespace Sys2Proof.Machine

/-- The model's ceiling division and Mathlib's: one formula. -/
theorem ceilDiv_eq_ceilDiv (a b : Nat) : ceilDiv a b = a ⌈/⌉ b := (Nat.ceilDiv_eq_add_pred_div a b).symm

/-- `ceil_div` is the ceiling of the exact quotient (00_scope.md R8). -/
theorem natCeil_cast_div (a : Nat) {b : Nat} (hb : 0 < b) : ⌈(a : ℚ) / b⌉₊ = ceilDiv a b := by
  have hbq : (0 : ℚ) < b := by exact_mod_cast hb
  refine eq_of_forall_ge_iff fun c => ?_
  calc ⌈(a : ℚ) / b⌉₊ ≤ c ↔ (a : ℚ) ≤ b * c := by rw [Nat.ceil_le, div_le_iff₀' hbq]
    _ ↔ a ≤ b * c := by exact_mod_cast Iff.rfl
    _ ↔ ceilDiv a b ≤ c := by rw [ceilDiv_eq_ceilDiv, ceilDiv_le_iff_le_mul hb]

/-- The total is the exact quotient of N by the divisor, rounded half up. -/
theorem natFloor_quotient_add_half {b : Nat} (hb : b ≠ 0) :
    ⌊(256000000 : ℚ) / b + 1 / 2⌋₊ = rateTotal b := by
  have hbq : (b : ℚ) ≠ 0 := by exact_mod_cast hb
  have hsum : (256000000 : ℚ) / b + 1 / 2 = ((2 * (32 * 8000000) + b : Nat) : ℚ) / (2 * b : Nat) := by
    push_cast
    field_simp
    norm_num
  rw [hsum, Nat.floor_div_eq_div, rateTotal]

/-- A slot is the difference of the exact ceilings at its two ends. -/
theorem rateSlot_eq_sub_natCeil (T i : Nat) :
    rateSlot T i = ⌈((i + 1) * T : ℚ) / 32⌉₊ - ⌈(i * T : ℚ) / 32⌉₊ := by
  have hstart := natCeil_cast_div (i * T) (b := 32) (by decide)
  have hend := natCeil_cast_div ((i + 1) * T) (b := 32) (by decide)
  push_cast at hstart hend
  rw [rateSlot, hstart, hend]

/-- No slot is longer than the ideal period `T / 32` rounded up: the ceiling of a sum is at most the sum of the
ceilings. -/
theorem rateSlot_le (T i : Nat) : rateSlot T i ≤ ceilDiv T 32 := by
  simp only [rateSlot, ceilDiv, Nat.succ_mul]
  omega

/-- Below the high clamp every slot fits its 16 bits. -/
theorem rateSlot_lt_of_le {T : Nat} (hT : T ≤ 32 * 65535) (i : Nat) : rateSlot T i < 2 ^ 16 := by
  have hslot := rateSlot_le T i
  unfold ceilDiv at hslot
  omega

/-- The slots of a table as numbers: no slot loses a bit in its 16-bit cell. -/
theorem rateTable_getElem_toNat (T i : Nat) (h : i < 32) :
    (rateTable T)[i].toNat =
      if 32 * 65535 < T then 65535 else if T < 32 * 128 then 128 else rateSlot T i := by
  rw [rateTable_getElem T i h]
  by_cases hhigh : T > 32 * 65535
  · simp [hhigh]
  by_cases hlow : T < 32 * 128
  · simp [hhigh, hlow]
  · have hfits := rateSlot_lt_of_le (Nat.le_of_not_gt hhigh) i
    simp only [hhigh, hlow, if_false, BitVec.toNat_ofNat, Nat.mod_eq_of_lt hfits]

/-- Settles O57: the exact rounding is the model's total, and each slot of that total's table is the difference of the
exact ceilings. -/
theorem rateTableSlots : Obligations.RateTableSlots := by
  intro b hb T i
  have hb' : b.toNat ≠ 0 := by simpa [BitVec.toNat_eq] using hb
  have hT : T = rateTotal b.toNat := natFloor_quotient_add_half hb'
  rw [← rateSlot_eq_sub_natCeil, hT]
  exact rateTable_getElem_toNat (rateTotal b.toNat) i.val i.isLt

end Sys2Proof.Machine

/-! ### The walk of a rise (42_step_engine.md R131, R137 to R139) -/

namespace Sys2Proof.Machine

open Sys2Proof

theorem exec_tick (s : State) (ax : Axis) :
    exec (.tick ax) s = .next (s.setAxis ax (s.axis ax).tick).silent := rfl

/-- A TICK replaces its own axis and leaves no response (R131). -/
theorem State.ticked_of_tick_eq {s : State} {ax : Axis} {a : AxisState} (h : (s.axis ax).tick = a) :
    State.Ticked s (s.setAxis ax (s.axis ax).tick).silent ax a where
  axis := by simp [h]
  other := by simp
  glob := by simp
  input := by simp
  response := rfl

section Walk

variable (a : AxisState)

/-- An edge with the pin low and no dwell left advances the slot, raises the pin and walks (R131 line d, R137). -/
theorem AxisState.tick_of_rise (ht : a.timerOn = true) (hirq : a.irqToNext = 1) (hpin : a.stepPin = false)
    (hdwell : a.accelRepeatsLeft = 0) : a.tick = { a.slotAdvance with stepPin := true }.walk := by
  obtain ⟨hoff, -⟩ | ⟨-, hne, -⟩ | ⟨-, -, hhigh, -⟩ | ⟨-, -, -, htick⟩ := a.tick_cases
  · simp [ht] at hoff
  · exact absurd hirq hne
  · simp [hpin] at hhigh
  · obtain ⟨hleft, -⟩ | ⟨-, hrise⟩ := a.slotAdvance.rise_cases
    · simp [hdwell] at hleft
    · exact htick.trans hrise

theorem AxisState.walk_of_slower (h : a.targetSpeed.toNat < a.currentSpeed.toNat) : a.walk = a.accelerate :=
  if_pos (BitVec.lt_def.mpr h)

theorem AxisState.walk_of_faster (h : a.currentSpeed.toNat < a.targetSpeed.toNat) : a.walk = a.decelerate := by
  have hnot : ¬a.currentSpeed > a.targetSpeed := fun hslow => Nat.lt_asymm h (BitVec.lt_def.mp hslow)
  rw [AxisState.walk, if_neg hnot, if_pos (BitVec.lt_def.mpr h)]

theorem AxisState.rep_eq_ofNat (i : Fin 6) :
    a.rep i = BitVec.ofNat 16 (if a.highSpeedMode then 3 * a.accel[i.val].repeats.toNat + 2
      else a.accel[i.val].repeats.toNat) := by
  rw [← AxisState.rep_toNat, BitVec.ofNat_toNat, BitVec.setWidth_eq]

/-- The next index up is the successor in `Fin 6`, and there is none above 5. -/
theorem ne_five_and_eq_add_one {i j : Fin 6} (h : i.val = j.val + 1) : j ≠ 5 ∧ i = j + 1 := by omega

/-- The next index down is the predecessor in `Fin 6`, and there is none below 0. -/
theorem ne_zero_and_eq_sub_one {i j : Fin 6} (h : i.val + 1 = j.val) : j ≠ 0 ∧ i = j - 1 := by omega

theorem AxisState.accelerate_of_last (h : a.accelIndex.val = 5) :
    a.accelerate = { a with currentSpeed := a.targetSpeed } := if_pos (Fin.ext h)

theorem AxisState.decelerate_of_first (h : a.accelIndex.val = 0) :
    a.decelerate = { a with currentSpeed := a.targetSpeed } := if_pos (Fin.ext h)

/-- Below the last entry the walk goes one up, and snaps where that entry is faster than the target (R138). -/
theorem AxisState.accelerate_of_succ {i : Fin 6} (hi : i.val = a.accelIndex.val + 1) :
    a.accelerate =
      if a.accel[i.val].speed.toNat < a.targetSpeed.toNat then
        { a with accelIndex := i, currentSpeed := a.targetSpeed }
      else
        { a with
          accelIndex := i
          currentSpeed := a.accel[i.val].speed
          accelRepeatsLeft := BitVec.ofNat 16 (if a.highSpeedMode then 3 * a.accel[i.val].repeats.toNat + 2
            else a.accel[i.val].repeats.toNat) } := by
  rw [← a.rep_eq_ofNat i]
  obtain ⟨hne, rfl⟩ := ne_five_and_eq_add_one hi
  obtain ⟨hlast, -⟩ | ⟨-, hpast, hsnap⟩ | ⟨-, hnot, hadopt⟩ := a.accelerate_cases
  · exact absurd hlast hne
  · exact hsnap.trans (if_pos hpast).symm
  · exact hadopt.trans (if_neg hnot).symm

/-- Above the first entry the walk goes one down, and snaps where that entry is slower than the target (R139). -/
theorem AxisState.decelerate_of_pred {i : Fin 6} (hi : i.val + 1 = a.accelIndex.val) :
    a.decelerate =
      if a.targetSpeed.toNat < a.accel[i.val].speed.toNat then
        { a with accelIndex := i, currentSpeed := a.targetSpeed }
      else
        { a with
          accelIndex := i
          currentSpeed := a.accel[i.val].speed
          accelRepeatsLeft := BitVec.ofNat 16 (if a.highSpeedMode then 3 * a.accel[i.val].repeats.toNat + 2
            else a.accel[i.val].repeats.toNat) } := by
  rw [← a.rep_eq_ofNat i]
  obtain ⟨hne, rfl⟩ := ne_zero_and_eq_sub_one hi
  obtain ⟨hfirst, -⟩ | ⟨-, hpast, hsnap⟩ | ⟨-, hnot, hadopt⟩ := a.decelerate_cases
  · exact absurd hfirst hne
  · exact hsnap.trans (if_pos hpast).symm
  · exact hadopt.trans (if_neg hnot).symm

end Walk

/-- Settles O18: the TICK is a rise that accelerates, from the last entry or from one below it. -/
theorem tickAccelerate : Obligations.TickAccelerate := by
  intro s ax ht hirq hpin hdwell hslower a seg b
  have htick : a.tick = b.accelerate :=
    (a.tick_of_rise ht hirq hpin hdwell).trans (b.walk_of_slower hslower)
  refine ⟨_, exec_tick s ax, fun hlast => ?_, fun i hi => ?_⟩
  · exact State.ticked_of_tick_eq (htick.trans (b.accelerate_of_last hlast))
  · have hentry := htick.trans (b.accelerate_of_succ hi)
    exact ⟨fun hpast => State.ticked_of_tick_eq (hentry.trans (if_pos hpast)),
      fun hreached => State.ticked_of_tick_eq (hentry.trans (if_neg (Nat.not_lt.mpr hreached)))⟩

/-- Settles O19: the TICK is a rise that decelerates, from the first entry or from one above it. -/
theorem tickDecelerate : Obligations.TickDecelerate := by
  intro s ax ht hirq hpin hdwell hfaster a seg b
  have htick : a.tick = b.decelerate :=
    (a.tick_of_rise ht hirq hpin hdwell).trans (b.walk_of_faster hfaster)
  refine ⟨_, exec_tick s ax, fun hfirst => ?_, fun i hi => ?_⟩
  · exact State.ticked_of_tick_eq (htick.trans (b.decelerate_of_first hfirst))
  · have hentry := htick.trans (b.decelerate_of_pred hi)
    exact ⟨fun hpast => State.ticked_of_tick_eq (hentry.trans (if_pos hpast)),
      fun hreached => State.ticked_of_tick_eq (hentry.trans (if_neg (Nat.not_lt.mpr hreached)))⟩

end Sys2Proof.Machine

/-! ### Motor control (43_motor_control.md R151 to R154, R160, R161) -/

namespace Sys2Proof.Machine

open Sys2Proof

/-- A transaction that replaces its own axis and then ends with a code changes nothing else (R231, R233). -/
theorem State.wrote_finish_setAxis (s : State) (ax : Axis) (a : AxisState) (c : Code) :
    State.Wrote s ((s.setAxis ax a).finish ax c) ax { a with err := c.bits } c where
  axis := by simp
  other := by simp
  glob := by simp
  input := by simp
  response := rfl

/-- Settles O26: each accepts one replacement of its axis, under no condition. -/
theorem enableDisable : Obligations.EnableDisable := by
  intro s ax
  exact ⟨⟨_, rfl, State.wrote_finish_setAxis s ax _ .ok⟩, ⟨_, rfl, State.wrote_finish_setAxis s ax _ .ok⟩⟩

/-- Settles O34: ESTOP accepts one replacement of its axis, under no condition. -/
theorem estop : Obligations.Estop :=
  fun s ax => ⟨_, rfl, State.wrote_finish_setAxis s ax _ .ok⟩

theorem exec_configure_of_stopped (s : State) (ax : Axis) (h : (s.axis ax).stopped = true) :
    exec (.configure ax) s = .next ((s.setAxis ax ((s.axis ax).configure s.glob)).finish ax .ok) :=
  congrArg Host.Outcome.next (if_pos h)

theorem exec_configure_of_running (s : State) (ax : Axis) (h : (s.axis ax).stopped = false) :
    exec (.configure ax) s = .next (s.finish ax .notStopped) :=
  congrArg Host.Outcome.next (if_neg (by simp [h]))

theorem AxisState.wantsHighSpeed_eq (a : AxisState) (g : GlobalConfig) :
    a.wantsHighSpeed g = (decide (2 < a.GVal.toNat) && g.allowHighSpeed) := rfl

/-- The step of magnitude 8 or 1, negated where the direction is reverse, is the signed number as a word (R28, R153). -/
theorem signedStep_eq_ofInt (hs d : Bool) :
    (if d then -(if hs then 8 else 1) else if hs then 8 else 1 : BitVec 8) =
      BitVec.ofInt 8 (if d then -(if hs then 8 else 1) else if hs then 8 else 1) := by
  cases hs <;> cases d <;> rfl

theorem AxisState.configure_eq (a : AxisState) (g : GlobalConfig) :
    a.configure g =
      { a with
        highSpeedMode := a.wantsHighSpeed g
        modeSel := a.wantsHighSpeed g
        stepDir := BitVec.ofInt 8
          (if a.dir then -(if a.wantsHighSpeed g then 8 else 1) else if a.wantsHighSpeed g then 8 else 1) } := by
  rw [← signedStep_eq_ofInt]
  rfl

/-- Settles O27: a stopped axis takes the writes of CONFIGURE, a running one only the code of the refusal. -/
theorem configure : Obligations.Configure := by
  intro s ax hs mag
  refine ⟨fun hstopped => ⟨_, exec_configure_of_stopped s ax hstopped, ?_⟩,
    fun hrunning => ⟨_, exec_configure_of_running s ax hrunning, s.wrote_finish ax .notStopped⟩⟩
  rw [AxisState.configure_eq, AxisState.wantsHighSpeed_eq]
  exact State.wrote_finish_setAxis s ax _ .ok

section Start

variable (a : AxisState)

/-- The threshold is the slower of the two periods; where they are equal either is the maximum. -/
theorem AxisState.startStop_eq_ite :
    a.startStop = if a.targetSpeed.toNat < a.accel[0].speed.toNat then a.accel[0].speed else a.targetSpeed := by
  apply BitVec.eq_of_toNat_eq
  rw [AxisState.startStop_toNat, AxisState.minSpeed]
  split <;> omega

theorem AxisState.startSpeed_of_stopped (h : a.stopped = true) : a.startSpeed = a.startStop := if_pos h

theorem AxisState.startSpeed_of_running (h : a.stopped = false) :
    a.startSpeed = if a.currentSpeed < a.minSpeed then a.currentSpeed else a.startStop :=
  if_neg (by simp [h])

theorem AxisState.startSpeed_of_faster (h : a.stopped = false)
    (hspeed : a.currentSpeed.toNat < a.accel[0].speed.toNat) : a.startSpeed = a.currentSpeed :=
  (a.startSpeed_of_running h).trans (if_pos (BitVec.lt_def.mpr hspeed))

theorem AxisState.startSpeed_of_slower (h : a.stopped = false)
    (hspeed : a.accel[0].speed.toNat ≤ a.currentSpeed.toNat) : a.startSpeed = a.startStop :=
  (a.startSpeed_of_running h).trans (if_neg (BitVec.not_lt.mpr (BitVec.le_def.mpr hspeed)))

theorem AxisState.startMotion_of_stopped (h : a.stopped = true) : a.startMotion = a.startCommon.startFresh := if_pos h

theorem AxisState.startMotion_of_running (h : a.stopped = false) : a.startMotion = a.startCommon := if_neg (by simp [h])

end Start

/-- Settles O28: what the start procedure writes on a stopped axis, and on a running one by whether it is faster than
`minSpeed`. -/
theorem startProcedure : Obligations.StartProcedure := by
  intro a stop
  have hstop : a.startStop = stop := a.startStop_eq_ite
  refine ⟨fun hstopped => ?_, fun hrunning hfaster => ?_, fun hrunning hslower => ?_⟩
  · rw [a.startMotion_of_stopped hstopped, AxisState.startFresh, AxisState.rep_eq_ofNat, AxisState.startCommon,
      a.startSpeed_of_stopped hstopped, hstop]
    rfl
  · rw [a.startMotion_of_running hrunning, AxisState.startCommon, a.startSpeed_of_faster hrunning hfaster, hstop]
  · rw [a.startMotion_of_running hrunning, AxisState.startCommon, a.startSpeed_of_slower hrunning hslower, hstop]

/-- RETARGET's comparison with the threshold takes the maximum. -/
theorem ite_le_eq_ofNat_max {w : Nat} (x v : BitVec w) :
    (if x ≤ v then v else x) = BitVec.ofNat w (max x.toNat v.toNat) := by
  split
  case isTrue h => rw [max_eq_right (BitVec.le_def.mp h), BitVec.ofNat_toNat, BitVec.setWidth_eq]
  case isFalse h => rw [max_eq_left (BitVec.lt_def.mp (BitVec.not_le.mp h)).le, BitVec.ofNat_toNat, BitVec.setWidth_eq]

theorem exec_retarget_of_legal (s : State) (ax : Axis) {v : BitVec 16} (h : speedLegal v = true) :
    exec (.retarget ax v) s = .next ((s.setAxis ax { s.axis ax with
      targetSpeed := v
      stopSpeed := BitVec.ofNat 16 (max (s.axis ax).stopSpeed.toNat v.toNat) }).finish ax .ok) := by
  rw [← ite_le_eq_ofNat_max]
  exact congrArg Host.Outcome.next (if_pos h)

theorem exec_retarget_of_illegal (s : State) (ax : Axis) {v : BitVec 16} (h : speedLegal v = false) :
    exec (.retarget ax v) s = .next (s.finish ax .range) :=
  congrArg Host.Outcome.next (if_neg (by simp [h]))

/-- Settles O35: a legal period replaces the target and the threshold together; 0 and 0xFFFF fail the check. -/
theorem retarget : Obligations.Retarget := by
  intro s ax v
  refine ⟨fun hlow hhigh => ?_, fun hbound => ?_⟩
  · have hlegal : speedLegal v = true := (speedLegal_iff v).mpr ⟨hlow, hhigh⟩
    exact ⟨_, exec_retarget_of_legal s ax hlegal, State.wrote_finish_setAxis s ax _ .ok⟩
  · have hillegal : speedLegal v = false := by
      obtain rfl | rfl := hbound <;> rfl
    exact ⟨_, exec_retarget_of_illegal s ax hillegal, s.wrote_finish ax .range⟩

end Sys2Proof.Machine

/-! ### Configuration writes (44_register_access.md R191) -/

namespace Sys2Proof.Machine

open Sys2Proof

theorem State.bothStopped_eq_false_iff (s : State) :
    s.bothStopped = false ↔ s.ra.stopped = false ∨ s.dc.stopped = false :=
  Bool.and_eq_false_iff

/-- The BUSY check stands before the check of the value and before every write (R73, R181). -/
theorem State.wrote_writeConfig_of_running (s : State) (ax : Axis)
    (hrunning : s.ra.stopped = false ∨ s.dc.stopped = false) (check : Bool) (written : State) :
    State.Wrote s (s.writeConfig ax check written) ax { s.axis ax with err := 4 } .busy := by
  have hgate : s.bothStopped = false := s.bothStopped_eq_false_iff.mpr hrunning
  obtain ⟨-, hbusy⟩ | ⟨hstopped, -⟩ | ⟨hstopped, -⟩ := s.writeConfig_cases written ax check
  · exact hbusy ▸ s.wrote_finish ax .busy
  · exact absurd (hgate.symm.trans hstopped) Bool.false_ne_true
  · exact absurd (hgate.symm.trans hstopped) Bool.false_ne_true

/-- Settles O44: each of the six instructions is `writeConfig` of its own check and its own writes, and is refused by the
gate that all six share. -/
theorem configBusy : Obligations.ConfigBusy := by
  intro s ax i hrunning hwrite
  have hbusy := s.wrote_writeConfig_of_running ax hrunning
  obtain ⟨v, rfl⟩ | ⟨v, rfl⟩ | ⟨b, rfl⟩ | ⟨r, rfl⟩ | ⟨n, sp, r, rfl⟩ | ⟨m, f, h, a, rfl⟩ := hwrite
  · exact ⟨_, rfl, hbusy (gotoSpeedLegal v) _⟩
  · exact ⟨_, rfl, hbusy (siderealLegal Config.params v) _⟩
  · exact ⟨_, rfl, hbusy (bValLegal b) _⟩
  · exact ⟨_, rfl, hbusy true _⟩
  · exact ⟨_, rfl, hbusy (decide (n ≤ 5) && speedLegal sp) _⟩
  · exact ⟨_, rfl, hbusy (gcfgLegal Config.params m f) { s with glob := ⟨m, f, h, a⟩ }⟩

end Sys2Proof.Machine

/-! ### Reset with an invalid record (70_reset_and_hazards.md R261) -/

namespace Sys2Proof.Machine

open Sys2Proof

/-- A record that fails a check fails the executable check too, so the reset takes its refusing branch. -/
theorem step_reset_invalid {s : State} {cfg : ResetConfig} {rest : List Input} (h : s.input = .reset cfg :: rest)
    (hinvalid : ¬cfg.Valid Config.params) : step s = .refused .invalidResetConfig := by
  have hillegal : ¬resetConfigLegal Config.params cfg = true := mt (resetConfigLegal_iff_valid _ _).mp hinvalid
  rw [step_of_input_reset h, State.applyReset, if_neg hillegal]

/-- Settles O9: the executable check and R261's list of checks agree, so failing one of the list refuses the reset. -/
theorem resetRefused : Obligations.ResetRefused := fun _ _ _ => step_reset_invalid

end Sys2Proof.Machine

/-! ### Decode and encode agree (30_encoding.md R65, R80 to R93) -/

namespace Sys2Proof

section Fields

variable (k k' : BitVec 2) (b b' : Bool) (o o' : BitVec 7) (d d' : BitVec 32)

/-- Masking works field by field. -/
theorem TWord.make_and_make :
    TWord.make k b o d &&& TWord.make k' b' o' d' = TWord.make (k &&& k') (b && b') (o &&& o') (d &&& d') := by
  apply BitVec.eq_of_getLsbD_eq
  intro i hi
  rw [BitVec.getLsbD_and, TWord.getLsbD_make _ _ _ _ i hi, TWord.getLsbD_make _ _ _ _ i hi,
    TWord.getLsbD_make _ _ _ _ i hi]
  split_ifs <;> simp only [BitVec.getLsbD_and]

theorem TWord.make_eq_make_iff :
    TWord.make k b o d = TWord.make k' b' o' d' ↔ k = k' ∧ b = b' ∧ o = o' ∧ d = d' := by
  constructor
  · intro h
    exact ⟨by simpa using congrArg TWord.kind h, by simpa using congrArg TWord.axisBit h,
      by simpa using congrArg TWord.offset h, by simpa using congrArg TWord.data h⟩
  · rintro ⟨rfl, rfl, rfl, rfl⟩
    rfl

end Fields

/-- A masked word equals a pattern when each masked field equals the pattern's. -/
theorem TWord.and_eq_iff (w m p : TWord) :
    w &&& m = p ↔ w.kind &&& m.kind = p.kind ∧ (w.axisBit && m.axisBit) = p.axisBit ∧
      w.offset &&& m.offset = p.offset ∧ w.data &&& m.data = p.data := by
  conv_lhs => rw [← w.make_fields, ← m.make_fields, ← p.make_fields]
  rw [TWord.make_and_make, TWord.make_eq_make_iff]

section Fields

variable (w m : TWord)

@[simp] theorem TWord.kind_and : TWord.kind (w &&& m) = w.kind &&& m.kind := ((w.and_eq_iff m _).mp rfl).1.symm
@[simp] theorem TWord.axisBit_and : TWord.axisBit (w &&& m) = (w.axisBit && m.axisBit) :=
  ((w.and_eq_iff m _).mp rfl).2.1.symm
@[simp] theorem TWord.offset_and : TWord.offset (w &&& m) = w.offset &&& m.offset :=
  ((w.and_eq_iff m _).mp rfl).2.2.1.symm
@[simp] theorem TWord.data_and : TWord.data (w &&& m) = w.data &&& m.data := ((w.and_eq_iff m _).mp rfl).2.2.2.symm

end Fields

/-! #### The bits that matter -/

/-- How many low bits of DATA an instruction does not ignore: none for RD, all for TICK and CMD (R84, R87), the width
of the register for the other writes (R65, R83). -/
def Instr.dataBits : Instr → Nat
  | .rd _ _ => 0
  | .wrJval _ _ | .wrHval _ _ | .wrBval _ _ | .wrAccel _ _ _ _ => 24
  | .wrTarget _ _ | .wrSidereal _ _ => 16
  | .wrMode _ _ _ _ => 6
  | .wrGotospeed _ _ => 8
  | .wrAxcfg _ _ => 1
  | .wrGcfg _ _ _ _ _ => 14
  | _ => 32

/-- KIND, the axis bit and the offset always matter. -/
theorem Instr.careMask_eq_make (i : Instr) :
    i.careMask = TWord.make 3 true 0x7F (BitVec.ofNat 32 (2 ^ i.dataBits - 1)) := by
  cases i <;> simp only [Instr.careMask, Instr.dataBits] <;> decide

theorem and_lowBits_eq_iff (n : Nat) (hn : n ≤ 32) (d d' : BitVec 32) :
    d &&& BitVec.ofNat 32 (2 ^ n - 1) = d' &&& BitVec.ofNat 32 (2 ^ n - 1) ↔
      d.toNat % 2 ^ n = d'.toNat % 2 ^ n := by
  have hmask : 2 ^ n - 1 < 2 ^ 32 :=
    (Nat.sub_lt (Nat.two_pow_pos n) Nat.one_pos).trans_le (Nat.pow_le_pow_right (by decide) hn)
  rw [BitVec.toNat_eq, BitVec.toNat_and, BitVec.toNat_and, BitVec.toNat_ofNat, Nat.mod_eq_of_lt hmask,
    Nat.and_two_pow_sub_one_eq_mod, Nat.and_two_pow_sub_one_eq_mod]

theorem Instr.dataBits_le (i : Instr) : i.dataBits ≤ 32 := by
  cases i <;> simp [Instr.dataBits]

/-- Two words agree on every bit that an instruction does not ignore. -/
structure Instr.Agree (i : Instr) (w w' : TWord) : Prop where
  kind : w.kind = w'.kind
  axisBit : w.axisBit = w'.axisBit
  offset : w.offset = w'.offset
  data : w.data.toNat % 2 ^ i.dataBits = w'.data.toNat % 2 ^ i.dataBits

theorem Instr.and_careMask_eq_iff (i : Instr) (w w' : TWord) :
    w &&& i.careMask = w' &&& i.careMask ↔ i.Agree w w' := by
  have hkind : ∀ k : BitVec 2, k &&& 3 = k := by decide
  have hoffset : ∀ o : BitVec 7, o &&& 0x7F = o := by decide
  rw [TWord.and_eq_iff, i.careMask_eq_make]
  simp only [TWord.kind_and, TWord.axisBit_and, TWord.offset_and, TWord.data_and, TWord.kind_make, TWord.axisBit_make,
    TWord.offset_make, TWord.data_make, hkind, hoffset, Bool.and_true, and_lowBits_eq_iff _ i.dataBits_le]
  exact ⟨fun ⟨hk, hb, ho, hd⟩ => ⟨hk, hb, ho, hd⟩, fun h => ⟨h.kind, h.axisBit, h.offset, h.data⟩⟩

/-! #### The operand fields of DATA

For each layout of DATA: a word agrees with the encoder's on the bits that matter exactly where the decoder's fields are
the operands. -/

theorem extractLsb'_eq_iff {n k : Nat} (x : BitVec n) (start : Nat) (v : BitVec k) :
    x.extractLsb' start k = v ↔ x.toNat / 2 ^ start % 2 ^ k = v.toNat := by
  rw [BitVec.toNat_eq, BitVec.extractLsb'_toNat, Nat.shiftRight_eq_div_pow]

theorem getLsbD_eq_iff {n : Nat} (x : BitVec n) (i : Nat) (b : Bool) :
    x.getLsbD i = b ↔ x.toNat / 2 ^ i % 2 = b.toNat := by
  rw [BitVec.getLsbD, Nat.testBit_eq_decide_div_mod_eq]
  cases b <;> simp

section Data

open Machine (PackedBelow packedBelow_setWidth)

variable (data : BitVec 32)

theorem wholeData_iff (d : BitVec 32) : data.toNat % 2 ^ 32 = d.toNat % 2 ^ 32 ↔ data = d := by
  rw [BitVec.toNat_eq, Nat.mod_eq_of_lt data.isLt, Nat.mod_eq_of_lt d.isLt]

theorem lowData_iff {n : Nat} (hn : n ≤ 32) (v : BitVec n) :
    data.toNat % 2 ^ n = (v.setWidth 32).toNat % 2 ^ n ↔ data.extractLsb' 0 n = v := by
  rw [extractLsb'_eq_iff, BitVec.toNat_setWidth_of_le hn, Nat.mod_eq_of_lt v.isLt, Nat.pow_zero, Nat.div_one]

theorem bitData_iff (b : Bool) : data.extractLsb' 0 1 = BitVec.ofBool b ↔ data.getLsbD 0 = b := by
  rw [extractLsb'_eq_iff, getLsbD_eq_iff, BitVec.toNat_ofBool, pow_one]

theorem retargetData_iff (v : BitVec 16) :
    data = v.setWidth 32 <<< 16 ||| 0x9 ↔
      data.extractLsb' 4 12 = 0 ∧ data.extractLsb' 0 4 = 0x9 ∧ data.extractLsb' 16 16 = v := by
  have hlow : PackedBelow (0x9 : BitVec 32) 16 9 := ⟨rfl, by decide⟩
  have hlt := data.isLt
  have hzero : (0 : BitVec 12).toNat = 0 := rfl
  have hnine : (0x9 : BitVec 4).toNat = 9 := rfl
  rw [BitVec.toNat_eq (x := data), hlow.high_or_toNat v (by decide), extractLsb'_eq_iff, extractLsb'_eq_iff,
    extractLsb'_eq_iff, hzero, hnine]
  omega

theorem modeData_iff (g : BitVec 4) (d e : Bool) :
    data.toNat % 2 ^ 6 = ((BitVec.ofBool e).setWidth 32 <<< 5 ||| (BitVec.ofBool d).setWidth 32 <<< 4 |||
      g.setWidth 32 : BitVec 32).toNat % 2 ^ 6 ↔
      data.extractLsb' 0 4 = g ∧ data.getLsbD 4 = d ∧ data.getLsbD 5 = e := by
  have hpacked := packedBelow_setWidth (w := 32) g (by decide) |>.or_bit d (by decide) |>.or_bit e (by decide)
  have hg := g.isLt
  have hd := d.toNat_lt
  have he := e.toNat_lt
  have hswap : ∀ x y z : BitVec 32, x ||| y ||| z = z ||| y ||| x := by intros; ac_rfl
  rw [hswap, hpacked.1, extractLsb'_eq_iff, getLsbD_eq_iff, getLsbD_eq_iff]
  omega

theorem gcfgData_iff (m : BitVec 8) (f : BitVec 4) (h a : Bool) :
    data.toNat % 2 ^ 14 = ((BitVec.ofBool a).setWidth 32 <<< 13 ||| (BitVec.ofBool h).setWidth 32 <<< 12 |||
      f.setWidth 32 <<< 8 ||| m.setWidth 32 : BitVec 32).toNat % 2 ^ 14 ↔
      data.extractLsb' 0 8 = m ∧ data.extractLsb' 8 4 = f ∧ data.getLsbD 12 = h ∧ data.getLsbD 13 = a := by
  have hpacked := packedBelow_setWidth (w := 32) m (by decide) |>.or_field f (by decide) |>.or_bit h (by decide)
    |>.or_bit a (by decide)
  have hm := m.isLt
  have hf := f.isLt
  have hh := h.toNat_lt
  have ha := a.toNat_lt
  have hswap : ∀ x y z u : BitVec 32, x ||| y ||| z ||| u = u ||| z ||| y ||| x := by intros; ac_rfl
  rw [hswap, hpacked.1, extractLsb'_eq_iff, extractLsb'_eq_iff, getLsbD_eq_iff, getLsbD_eq_iff]
  omega

theorem accelData_iff (sp : BitVec 16) (r : BitVec 8) :
    data.toNat % 2 ^ 24 = (r.setWidth 32 <<< 16 ||| sp.setWidth 32 : BitVec 32).toNat % 2 ^ 24 ↔
      data.extractLsb' 0 16 = sp ∧ data.extractLsb' 16 8 = r := by
  have hsp := sp.isLt
  have hr := r.isLt
  rw [(packedBelow_setWidth (w := 32) sp (by decide)).high_or_toNat r (by decide), extractLsb'_eq_iff,
    extractLsb'_eq_iff]
  omega

end Data

/-- The field ADDR[2:0] of the offsets 0x40 to 0x47 is the table index (R82). -/
theorem accelOffset_iff (off : BitVec 7) (n : Nat) :
    n < 8 ∧ off = 0x40 ||| BitVec.ofNat 7 (n % 8) ↔ off.extractLsb' 3 4 = 0b1000 ∧ (off.extractLsb' 0 3).toNat = n := by
  have hbits : ∀ i : Fin 8, (0x40 ||| BitVec.ofNat 7 (i.val % 8) : BitVec 7).toNat = 64 + i.val := by decide
  have hval : n < 8 → (0x40 ||| BitVec.ofNat 7 (n % 8) : BitVec 7).toNat = 64 + n := fun hn => hbits ⟨n, hn⟩
  have height : (0b1000 : BitVec 4).toNat = 8 := rfl
  have hlt := off.isLt
  rw [extractLsb'_eq_iff, BitVec.extractLsb'_toNat, Nat.shiftRight_eq_div_pow, BitVec.toNat_eq (x := off), height]
  constructor
  · rintro ⟨hn, hoff⟩
    rw [hoff, hval hn]
    omega
  · rintro ⟨hhigh, hlow⟩
    have hn : n < 8 := by omega
    exact ⟨hn, by rw [hval hn]; omega⟩

/-! #### The decoder, word by word -/

section Decode

variable {w : TWord}

theorem decode_of_write (hkind : w.kind = 1) (hoff : w.offset ≠ 0) :
    decode w = decodeWr (Axis.ofBit w.axisBit) w.offset w.data := by
  rw [decode_of_kind_write hkind, if_neg hoff]

theorem decode_of_cmd (hkind : w.kind = 1) (hoff : w.offset = 0) :
    decode w = decodeCmd (Axis.ofBit w.axisBit) w.data := by
  rw [decode_of_kind_write hkind, if_pos hoff]

theorem decodeCmd_of_retarget {ax : Axis} {data : BitVec 32} (hreserved : data.extractLsb' 4 12 = 0)
    (hop : data.extractLsb' 0 4 = 0x9) : decodeCmd ax data = .ok (.retarget ax (data.extractLsb' 16 16)) := by
  rw [decodeCmd, hreserved, hop]
  rfl

/-- Every offset with ADDR[6:3] = 0b1000 is an entry of the accel table, and none of the offsets tested before it. -/
theorem decodeWr_of_accel {ax : Axis} {off : BitVec 7} {data : BitVec 32} (hoff : off.extractLsb' 3 4 = 0b1000) :
    decodeWr ax off data =
      .ok (.wrAccel ax (off.extractLsb' 0 3).toNat (data.extractLsb' 0 16) (data.extractLsb' 16 8)) := by
  have hother : ∀ o : BitVec 7, o.extractLsb' 3 4 = 0b1000 → o ∉ [0x03, 0x04, 0x09, 0x0A, 0x10, 0x11, 0x12, 0x13] := by
    decide
  have hnot := hother off hoff
  simp only [List.mem_cons, List.not_mem_nil, or_false, not_or] at hnot
  simp only [decodeWr, hnot, hoff, if_true, if_false]

/-- A word that agrees with a well-formed instruction's word on every bit that matters decodes to it. -/
theorem decode_of_agree {i : Instr} (hwf : i.wellFormed = true) (h : i.Agree w (encode i)) : decode w = .ok i := by
  obtain ⟨hkind, haxis, hoff, hdata⟩ := h
  cases i <;>
    simp (disch := decide) only [encode, TWord.kind_make, TWord.axisBit_make, TWord.offset_make, TWord.data_make,
      Instr.dataBits, wholeData_iff, lowData_iff, bitData_iff, retargetData_iff, modeData_iff, gcfgData_iff,
      accelData_iff]
      at hkind haxis hoff hdata
  case rd => rw [decode_of_kind_read hkind, haxis, hoff, Machine.Axis.ofBit_bit]
  case tick => rw [decode_of_kind_tick hkind, haxis, Machine.Axis.ofBit_bit, if_pos ⟨hoff, hdata⟩]
  case enable | disable | configure | slew | goto | start | stop | estop =>
    rw [decode_of_cmd hkind hoff, haxis, Machine.Axis.ofBit_bit, hdata]
    rfl
  case retarget =>
    obtain ⟨hreserved, hop, rfl⟩ := hdata
    rw [decode_of_cmd hkind hoff, haxis, Machine.Axis.ofBit_bit, decodeCmd_of_retarget hreserved hop]
  case wrAccel ax n sp r =>
    have hn : n < 8 := by simpa [Instr.wellFormed] using hwf
    obtain ⟨hhigh, rfl⟩ := (accelOffset_iff _ _).mp ⟨hn, hoff⟩
    obtain ⟨rfl, rfl⟩ := hdata
    have hne : w.offset ≠ 0 := fun h => absurd (h ▸ hhigh) (by decide)
    rw [decode_of_write hkind hne, haxis, Machine.Axis.ofBit_bit, decodeWr_of_accel hhigh]
  case wrMode =>
    obtain ⟨rfl, rfl, rfl⟩ := hdata
    rw [decode_of_write hkind (by simp [hoff]), haxis, hoff, Machine.Axis.ofBit_bit]
    rfl
  case wrGcfg =>
    obtain ⟨rfl, rfl, rfl, rfl⟩ := hdata
    rw [decode_of_write hkind (by simp [hoff]), haxis, hoff, Machine.Axis.ofBit_bit]
    rfl
  case wrJval | wrTarget | wrHval | wrGotospeed | wrSidereal | wrBval | wrAxcfg =>
    obtain rfl := hdata
    rw [decode_of_write hkind (by simp [hoff]), haxis, hoff, Machine.Axis.ofBit_bit]
    rfl

/-- A test that decodes: what follows is read only where the test fails. -/
theorem of_ite_ok_eq_ok {ρ ι : Type} {c : Prop} [Decidable c] {i j : ι} {rest : Except ρ ι}
    (h : (if c then .ok i else rest) = .ok j) : (c ∧ j = i) ∨ rest = .ok j := by
  by_cases hc : c
  · exact .inl ⟨hc, (Except.ok.inj ((if_pos hc).symm.trans h)).symm⟩
  · exact .inr ((if_neg hc).symm.trans h)

/-- A test that refuses. -/
theorem of_ite_error_eq_ok {ρ ι : Type} {c : Prop} [Decidable c] {r : ρ} {j : ι} {rest : Except ρ ι}
    (h : (if c then .error r else rest) = .ok j) : ¬c ∧ rest = .ok j := by
  by_cases hc : c
  · rw [if_pos hc] at h
    cases h
  · exact ⟨hc, (if_neg hc).symm.trans h⟩

/-- What the decoder reads from a CMD write (R88). -/
theorem decodeCmd_cases {ax : Axis} {data : BitVec 32} {i : Instr} (h : decodeCmd ax data = .ok i) :
    (data.extractLsb' 4 12 = 0 ∧ data.extractLsb' 0 4 = 0x9 ∧ i = .retarget ax (data.extractLsb' 16 16)) ∨
    (data = 0x1 ∧ i = .enable ax) ∨ (data = 0x2 ∧ i = .disable ax) ∨ (data = 0x3 ∧ i = .configure ax) ∨
    (data = 0x4 ∧ i = .slew ax) ∨ (data = 0x5 ∧ i = .goto ax) ∨ (data = 0x6 ∧ i = .start ax) ∨
    (data = 0x7 ∧ i = .stop ax) ∨ (data = 0x8 ∧ i = .estop ax) := by
  have hwhole : ∀ (op : BitVec 4) (d : BitVec 32), d = op.setWidth 32 → data.extractLsb' 4 12 = 0 →
      data.extractLsb' 16 16 = 0 → data.extractLsb' 0 4 = op → data = d := by
    intro op d hd hreserved hoperand hop
    have hlt := data.isLt
    have hzero : (0 : BitVec 12).toNat = 0 := rfl
    have hzero' : (0 : BitVec 16).toNat = 0 := rfl
    rw [extractLsb'_eq_iff] at hreserved hoperand hop
    rw [hd, BitVec.toNat_eq, BitVec.toNat_setWidth_of_le (by decide)]
    omega
  unfold decodeCmd at h
  obtain ⟨hreserved, h⟩ := of_ite_error_eq_ok h
  have hreserved := not_not.mp hreserved
  obtain ⟨hop, rfl⟩ | h := of_ite_ok_eq_ok h
  · exact .inl ⟨hreserved, hop, rfl⟩
  obtain ⟨hoperand, h⟩ := of_ite_error_eq_ok h
  have hcode := fun op d hd => hwhole op d hd hreserved (not_not.mp hoperand)
  refine .inr ?_
  iterate 7
    obtain ⟨hop, rfl⟩ | h := of_ite_ok_eq_ok h
    · exact .inl ⟨hcode _ _ (by decide) hop, rfl⟩
    refine .inr ?_
  obtain ⟨hop, rfl⟩ | h := of_ite_ok_eq_ok h
  · exact ⟨hcode _ _ (by decide) hop, rfl⟩
  cases h

/-- What the decoder reads from a WR of a register (R89). -/
theorem decodeWr_cases {ax : Axis} {off : BitVec 7} {data : BitVec 32} {i : Instr} (h : decodeWr ax off data = .ok i) :
    (off = 0x03 ∧ i = .wrJval ax (data.extractLsb' 0 24)) ∨ (off = 0x04 ∧ i = .wrTarget ax (data.extractLsb' 0 16)) ∨
    (off = 0x09 ∧ i = .wrHval ax (data.extractLsb' 0 24)) ∨
    (off = 0x0A ∧ i = .wrMode ax (data.extractLsb' 0 4) (data.getLsbD 4) (data.getLsbD 5)) ∨
    (off = 0x10 ∧ i = .wrGotospeed ax (data.extractLsb' 0 8)) ∨
    (off = 0x11 ∧ i = .wrSidereal ax (data.extractLsb' 0 16)) ∨ (off = 0x12 ∧ i = .wrBval ax (data.extractLsb' 0 24)) ∨
    (off = 0x13 ∧ i = .wrAxcfg ax (data.getLsbD 0)) ∨
    (off.extractLsb' 3 4 = 0b1000 ∧
      i = .wrAccel ax (off.extractLsb' 0 3).toNat (data.extractLsb' 0 16) (data.extractLsb' 16 8)) ∨
    (off = 0x70 ∧
      i = .wrGcfg ax (data.extractLsb' 0 8) (data.extractLsb' 8 4) (data.getLsbD 12) (data.getLsbD 13)) := by
  unfold decodeWr at h
  split_ifs at h <;> obtain rfl := Except.ok.inj h <;> simp only [*, true_and, true_or, or_true]

/-- A word that decodes to an instruction agrees with that instruction's word on every bit that matters. -/
theorem agree_of_decode {i : Instr} (h : decode w = .ok i) : i.wellFormed = true ∧ i.Agree w (encode i) := by
  obtain hkind | hkind | hkind | hkind := w.kind_cases
  · rw [decode_of_kind_read hkind] at h
    obtain rfl := Except.ok.inj h
    exact ⟨rfl, by simp [encode, hkind], by simp [encode], by simp [encode], by simp [Instr.dataBits, Nat.mod_one]⟩
  · by_cases hoff : w.offset = 0
    · rw [decode_of_cmd hkind hoff] at h
      have hwhole : ∀ i : Instr, i.wellFormed = true → encode i = TWord.make 1 w.axisBit 0 w.data →
          i.wellFormed = true ∧ i.Agree w (encode i) := by
        intro i hwf henc
        exact ⟨hwf, by simp [henc, hkind], by simp [henc], by simp [henc, hoff], by simp [henc]⟩
      obtain ⟨hreserved, hop, rfl⟩ | ⟨hd, rfl⟩ | ⟨hd, rfl⟩ | ⟨hd, rfl⟩ | ⟨hd, rfl⟩ | ⟨hd, rfl⟩ | ⟨hd, rfl⟩ | ⟨hd, rfl⟩ |
        ⟨hd, rfl⟩ := decodeCmd_cases h
      · refine hwhole _ rfl ?_
        rw [encode, Machine.Axis.bit_ofBit, ← (retargetData_iff w.data _).mpr ⟨hreserved, hop, rfl⟩]
      all_goals exact hwhole _ rfl (by rw [encode, Machine.Axis.bit_ofBit, hd])
    · rw [decode_of_write hkind hoff] at h
      obtain ⟨ho, rfl⟩ | ⟨ho, rfl⟩ | ⟨ho, rfl⟩ | ⟨ho, rfl⟩ | ⟨ho, rfl⟩ | ⟨ho, rfl⟩ | ⟨ho, rfl⟩ | ⟨ho, rfl⟩ | ⟨ho, rfl⟩ |
        ⟨ho, rfl⟩ := decodeWr_cases h
      case inr.inr.inr.inr.inr.inr.inr.inr.inl =>
        obtain ⟨hn, hoff'⟩ := (accelOffset_iff _ _).mpr ⟨ho, rfl⟩
        refine ⟨by simpa [Instr.wellFormed] using hn, by simp [encode, hkind], by simp [encode], ?_, ?_⟩
        · rw [encode, TWord.offset_make]
          exact hoff'
        · rw [encode, TWord.data_make]
          exact (accelData_iff _ _ _).mpr ⟨rfl, rfl⟩
      all_goals
        refine ⟨rfl, by simp [encode, hkind], by simp [encode], by simp [encode, ho], ?_⟩
        simp (disch := decide) only [encode, Instr.dataBits, TWord.data_make, lowData_iff, bitData_iff, modeData_iff,
          gcfgData_iff, and_self]
  · rw [decode_of_kind_tick hkind] at h
    split at h
    next hzero =>
      obtain rfl := Except.ok.inj h
      exact ⟨rfl, by simp [encode, hkind], by simp [encode], by simp [encode, hzero.1], by simp [encode, hzero.2]⟩
    · cases h
  · rw [decode_of_kind_reserved hkind] at h
    cases h

/-- The decoder in one line: a word decodes to a well-formed instruction exactly where it agrees with the instruction's
word on every bit that the block does not ignore. -/
theorem decode_eq_ok_iff {i : Instr} :
    decode w = .ok i ↔ i.wellFormed = true ∧ w &&& i.careMask = encode i &&& i.careMask := by
  rw [Instr.and_careMask_eq_iff]
  exact ⟨agree_of_decode, fun ⟨hwf, hagree⟩ => decode_of_agree hwf hagree⟩

end Decode

/-- Settles O1: an instruction's word agrees with itself. -/
theorem decodeOfEncode : Obligations.DecodeOfEncode :=
  fun _ hwf => decode_eq_ok_iff.mpr ⟨hwf, rfl⟩

/-- Settles O2: what decoding says of a word is said of its bits under the mask alone. -/
theorem encodeOfDecode : Obligations.EncodeOfDecode := by
  intro w i h
  obtain ⟨hwf, hmask⟩ := decode_eq_ok_iff.mp h
  exact ⟨hwf, hmask.symm, fun w' hw' => decode_eq_ok_iff.mpr ⟨hwf, hw'.trans hmask⟩⟩

/-- Settles O5: each of the five words is the encoder's, and decoding gives the instruction back. -/
theorem workedEncodings : Obligations.WorkedEncodings := by
  have hboth : ∀ (i : Instr) (w : TWord), i.wellFormed = true → encode i = w → encode i = w ∧ decode w = .ok i :=
    fun i _ hwf henc => ⟨henc, henc ▸ decodeOfEncode i hwf⟩
  obtain ⟨h1, h1'⟩ := hboth (.tick .dc) 0x28000000000 rfl (by decide)
  obtain ⟨h2, h2'⟩ := hboth (.goto .dc) 0x18000000005 rfl (by decide)
  obtain ⟨h3, h3'⟩ := hboth (.retarget .ra 300) 0x100012C0009 rfl (by decide)
  obtain ⟨h4, h4'⟩ := hboth (.wrHval .dc 0x100) 0x18900000100 rfl (by decide)
  obtain ⟨h5, h5'⟩ := hboth (.rd .ra 0x03) 0x00300000000 rfl (by decide)
  exact ⟨h1, h1', h2, h2', h3, h3', h4, h4', h5, h5'⟩

/-! #### The opcode table (opcode_table.json) -/

section Table

variable {w : TWord}

theorem OpRow.matchesWord_iff (r : OpRow) : r.matchesWord w = true ↔ w &&& r.mask = r.pattern := beq_iff_eq

/-- Two rows of the table differ in a bit that both masks select. -/
theorem opTable_disjoint :
    ∀ r ∈ opTable, ∀ r' ∈ opTable, r.pattern &&& r'.mask = r'.pattern &&& r.mask → r' = r := by decide

/-- No word matches two rows. -/
theorem OpRow.eq_of_matchesWord {r r' : OpRow} (hr : r ∈ opTable) (hr' : r' ∈ opTable) (h : r.matchesWord w = true)
    (h' : r'.matchesWord w = true) : r' = r := by
  rw [OpRow.matchesWord_iff] at h h'
  refine opTable_disjoint r hr r' hr' ?_
  rw [← h, ← h', BitVec.and_assoc, BitVec.and_assoc, BitVec.and_comm r.mask]

theorem accelOffset_and (n : Nat) : (0x40 ||| BitVec.ofNat 7 (n % 8) : BitVec 7) &&& 0x78 = 0x40 := by
  have hbits : ∀ i : Fin 8, (0x40 ||| BitVec.ofNat 7 i.val : BitVec 7) &&& 0x78 = 0x40 := by decide
  exact hbits ⟨n % 8, Nat.mod_lt _ (by decide)⟩

theorem retargetData_and (v : BitVec 16) : (v.setWidth 32 <<< 16 ||| 0x9 : BitVec 32) &&& 0xFFFF = 0x9 := by
  have hmask : ∀ x : BitVec 32, (x &&& 0xFFFF).toNat = x.toNat % 2 ^ 16 := fun x => Nat.and_two_pow_sub_one_eq_mod _ 16
  have hlow : Machine.PackedBelow (0x9 : BitVec 32) 16 9 := ⟨rfl, by decide⟩
  rw [BitVec.toNat_eq, hmask, hlow.high_or_toNat v (by decide)]
  show _ = 9
  omega

/-- What makes a row the instruction's: it has the mnemonic, it asks only for bits the block does not ignore, and the
instruction's word has them. -/
structure Instr.HasRow (i : Instr) (r : OpRow) : Prop where
  mem : r ∈ opTable
  mnemonic : r.mnemonic = i.mnemonic
  cares : i.careMask &&& r.mask = r.mask
  word : encode i &&& r.mask = r.pattern

/-- Every row asks for KIND and not for the axis bit, so its masks `om` of the offset and `dm` of DATA and its patterns
`p` and `q` there decide; `n` is the number of DATA bits that matter. -/
theorem Instr.HasRow.of_fields {i : Instr} {k : BitVec 2} {b : Bool} {o : BitVec 7} {d : BitVec 32} (r : OpRow)
    (n : Nat) (om : BitVec 7) (dm : BitVec 32) (p : BitVec 7) (q : BitVec 32)
    (hname : r.mnemonic = i.mnemonic) (henc : encode i = TWord.make k b o d) (hbits : i.dataBits = n)
    (hrow : r ∈ opTable ∧ r.mask = TWord.make 3 false om dm ∧ r.pattern = TWord.make k false p q ∧
      BitVec.ofNat 32 (2 ^ n - 1) &&& dm = dm := by decide)
    (hoff : o &&& om = p := by decide) (hdata : d &&& dm = q := by decide) : i.HasRow r := by
  have hthree : ∀ k : BitVec 2, k &&& 3 = k := by decide
  have hseven : ∀ o : BitVec 7, 0x7F &&& o = o := by decide
  obtain ⟨hmem, hmask, hpattern, hcares⟩ := hrow
  refine ⟨hmem, hname, ?_, ?_⟩
  · rw [i.careMask_eq_make, hmask, TWord.make_and_make, hbits, hcares, hseven, hthree, Bool.and_false]
  · rw [henc, hmask, hpattern, TWord.make_and_make, hthree, hoff, hdata, Bool.and_false]

theorem Instr.exists_hasRow (i : Instr) : ∃ r, i.HasRow r := by
  cases i with
  | rd => exact ⟨_, .of_fields opTable[0] 0 0 0 0 0 rfl rfl rfl (hoff := BitVec.and_zero)⟩
  | tick => exact ⟨_, .of_fields opTable[1] 32 0x7F 0xFFFFFFFF 0 0 rfl rfl rfl⟩
  | enable => exact ⟨_, .of_fields opTable[2] 32 0x7F 0xFFFFFFFF 0 1 rfl rfl rfl⟩
  | disable => exact ⟨_, .of_fields opTable[3] 32 0x7F 0xFFFFFFFF 0 2 rfl rfl rfl⟩
  | configure => exact ⟨_, .of_fields opTable[4] 32 0x7F 0xFFFFFFFF 0 3 rfl rfl rfl⟩
  | slew => exact ⟨_, .of_fields opTable[5] 32 0x7F 0xFFFFFFFF 0 4 rfl rfl rfl⟩
  | goto => exact ⟨_, .of_fields opTable[6] 32 0x7F 0xFFFFFFFF 0 5 rfl rfl rfl⟩
  | start => exact ⟨_, .of_fields opTable[7] 32 0x7F 0xFFFFFFFF 0 6 rfl rfl rfl⟩
  | stop => exact ⟨_, .of_fields opTable[8] 32 0x7F 0xFFFFFFFF 0 7 rfl rfl rfl⟩
  | estop => exact ⟨_, .of_fields opTable[9] 32 0x7F 0xFFFFFFFF 0 8 rfl rfl rfl⟩
  | retarget ax v => exact ⟨_, .of_fields opTable[10] 32 0x7F 0xFFFF 0 9 rfl rfl rfl (hdata := retargetData_and v)⟩
  | wrJval => exact ⟨_, .of_fields opTable[11] 24 0x7F 0 0x03 0 rfl rfl rfl (hdata := BitVec.and_zero)⟩
  | wrTarget => exact ⟨_, .of_fields opTable[12] 16 0x7F 0 0x04 0 rfl rfl rfl (hdata := BitVec.and_zero)⟩
  | wrHval => exact ⟨_, .of_fields opTable[13] 24 0x7F 0 0x09 0 rfl rfl rfl (hdata := BitVec.and_zero)⟩
  | wrMode => exact ⟨_, .of_fields opTable[14] 6 0x7F 0 0x0A 0 rfl rfl rfl (hdata := BitVec.and_zero)⟩
  | wrGotospeed => exact ⟨_, .of_fields opTable[15] 8 0x7F 0 0x10 0 rfl rfl rfl (hdata := BitVec.and_zero)⟩
  | wrSidereal => exact ⟨_, .of_fields opTable[16] 16 0x7F 0 0x11 0 rfl rfl rfl (hdata := BitVec.and_zero)⟩
  | wrBval => exact ⟨_, .of_fields opTable[17] 24 0x7F 0 0x12 0 rfl rfl rfl (hdata := BitVec.and_zero)⟩
  | wrAxcfg => exact ⟨_, .of_fields opTable[18] 1 0x7F 0 0x13 0 rfl rfl rfl (hdata := BitVec.and_zero)⟩
  | wrAccel ax n sp r => exact ⟨_, .of_fields opTable[19] 24 0x78 0 0x40 0 rfl rfl rfl (hoff := accelOffset_and n)
      (hdata := BitVec.and_zero)⟩
  | wrGcfg => exact ⟨_, .of_fields opTable[20] 14 0x7F 0 0x70 0 rfl rfl rfl (hdata := BitVec.and_zero)⟩

/-- The row of the decoded instruction matches the word. -/
theorem exists_row_of_decode {i : Instr} (h : decode w = .ok i) :
    ∃ r ∈ opTable, r.mnemonic = i.mnemonic ∧ r.matchesWord w = true := by
  obtain ⟨-, hmask⟩ := decode_eq_ok_iff.mp h
  obtain ⟨r, hrow⟩ := i.exists_hasRow
  refine ⟨r, hrow.mem, hrow.mnemonic, r.matchesWord_iff.mpr ?_⟩
  calc w &&& r.mask = w &&& i.careMask &&& r.mask := by rw [BitVec.and_assoc, hrow.cares]
    _ = encode i &&& r.mask := by rw [hmask, BitVec.and_assoc, hrow.cares]
    _ = r.pattern := hrow.word

/-- The rows by the parts of the word they ask for: KIND alone, a whole TICK word, a CMD write with the code of an
operation, or a writable offset (R84, R87, R190). -/
theorem opTable_shapes : ∀ r ∈ opTable, r.mask.kind = 3 ∧
    (r.pattern.kind = 0 ∨
    (r.pattern.kind = 2 ∧ r.mask.offset = 0x7F ∧ r.pattern.offset = 0 ∧ r.mask.data = 0xFFFFFFFF ∧ r.pattern.data = 0) ∨
    (r.pattern.kind = 1 ∧ r.mask.offset = 0x7F ∧ r.pattern.offset = 0 ∧
      ((r.mask.data = 0xFFFFFFFF ∧ 1 ≤ r.pattern.data.toNat ∧ r.pattern.data.toNat ≤ 8) ∨
        (r.mask.data = 0xFFFF ∧ r.pattern.data = 9))) ∨
    (r.pattern.kind = 1 ∧ ∀ off : BitVec 7, off &&& r.mask.offset = r.pattern.offset → off.toNat ∈
      [0x03, 0x04, 0x09, 0x0A, 0x10, 0x11, 0x12, 0x13, 0x40, 0x41, 0x42, 0x43, 0x44, 0x45, 0x46, 0x47, 0x70])) := by
  decide

/-- A word that matches a row is not refused. -/
theorem not_error_of_matchesWord {r : OpRow} (hr : r ∈ opTable) (h : r.matchesWord w = true) :
    ¬∃ e, decode w = .error e := by
  obtain ⟨hkind, -, hoff, hdata⟩ := (w.and_eq_iff _ _).mp (r.matchesWord_iff.mp h)
  have hthree : ∀ k : BitVec 2, k &&& 3 = k := by decide
  have hseven : ∀ o : BitVec 7, o &&& 0x7F = o := by decide
  have hall : ∀ d : BitVec 32, d &&& 0xFFFFFFFF = d := fun d => BitVec.and_allOnes
  obtain ⟨hmask, hread | ⟨htick, hmo, hpo, hmd, hpd⟩ | ⟨hcmd, hmo, hpo, hop⟩ | ⟨hwrite, hwritable⟩⟩ :=
    opTable_shapes r hr
  · rw [hmask, hthree, hread] at hkind
    simp [decode_of_kind_read hkind]
  · rw [hmask, hthree, htick] at hkind
    rw [hmo, hseven, hpo] at hoff
    rw [hmd, hall, hpd] at hdata
    simp [decode_error_iff_of_kind_tick hkind, hoff, hdata]
  · rw [hmask, hthree, hcmd] at hkind
    rw [hmo, hseven, hpo] at hoff
    rw [decode_of_cmd hkind hoff, decodeCmd_error_iff]
    obtain ⟨hmd, hlow, hhigh⟩ | ⟨hmd, hpd⟩ := hop
    · rw [hmd, hall] at hdata
      rw [hdata]
      omega
    · have hlow16 : w.data.toNat % 2 ^ 16 = 9 := by
        rw [hmd, hpd] at hdata
        exact (Nat.and_two_pow_sub_one_eq_mod _ 16).symm.trans (congrArg BitVec.toNat hdata)
      omega
  · rw [hmask, hthree, hwrite] at hkind
    have hmem := hwritable _ hoff
    have hne : w.offset ≠ 0 := by
      intro hzero
      rw [hzero] at hmem
      exact absurd hmem (by decide)
    rw [decode_of_write hkind hne, decodeWr_error_iff]
    exact not_not.mpr hmem

end Table

/-- Settles O3: the decoded instruction's row matches, no other row does, and every matching word decodes. -/
theorem decodeMatchesOpcodeTable : Obligations.DecodeMatchesOpcodeTable := by
  intro w
  refine ⟨fun i hi => ?_, fun e he r hr => ?_⟩
  · obtain ⟨r, hr, hname, hmatch⟩ := exists_row_of_decode hi
    exact ⟨r, hr, hname, fun r' hr' =>
      ⟨fun hmatch' => OpRow.eq_of_matchesWord hr hr' hmatch hmatch', fun heq => heq ▸ hmatch⟩⟩
  · by_contra hmatch
    exact not_error_of_matchesWord hr (Bool.eq_true_of_not_eq_false hmatch) ⟨e, he⟩

end Sys2Proof

/-! ### What an instruction does, once for all (60_exceptions.md R230 to R235)

Every instruction is an operation on one axis: a write transaction ends with a code that its axis and the two `stopped`
bits decide, and where that code is OK it replaces its axis (WR.GCFG: the global configuration). -/

namespace Sys2Proof

open Machine

/-- The end of a configuration write: BUSY before RANGE (44_register_access.md R181, R191). -/
def Machine.configCode (both check : Bool) : Code :=
  if both then if check then .ok else .range else .busy

/-- The code a write transaction on the axis `a` ends with, where `both` says that both axes are stopped (R234, R235).
RD and TICK write no code. -/
def Instr.endCode (both : Bool) (a : AxisState) : Instr → Code
  | .configure _ => if a.stopped then .ok else .notStopped
  | .slew _ | .start _ => if a.dirConsistent then .ok else .inconsistent
  | .goto _ => if a.stopped then if a.dirConsistent then .ok else .inconsistent else .notStopped
  | .retarget _ v | .wrTarget _ v => if speedLegal v then .ok else .range
  | .wrGotospeed _ v => configCode both (gotoSpeedLegal v)
  | .wrSidereal _ v => configCode both (siderealLegal Config.params v)
  | .wrBval _ b => configCode both (bValLegal b)
  | .wrAxcfg _ _ => configCode both true
  | .wrAccel _ n sp _ => configCode both (decide (n ≤ 5) && speedLegal sp)
  | .wrGcfg _ m f _ _ => configCode both (gcfgLegal Config.params m f)
  | _ => .ok

/-- What an accepted write transaction makes of its axis, before OK goes to `err`. -/
def Instr.writtenAxis (g : GlobalConfig) (a : AxisState) : Instr → AxisState
  | .enable _ => { a with enablePin := false, enabled := true }
  | .disable _ => { a with enablePin := true, enabled := false }
  | .configure _ => a.configure g
  | .slew _ => a.slew
  | .goto _ => a.goto
  | .start _ => a.startMotion
  | .stop _ => { a with gotoRunning := false, gotoEn := false, GVal := 1 }.aimPastStop
  | .estop _ =>
    { a with
      timerOn := false
      stopped := true
      gotoRunning := false
      gotoDecelerating := false
      gotoEn := false
      GVal := 1 }
  | .retarget _ v => { a with targetSpeed := v, stopSpeed := if a.stopSpeed ≤ v then v else a.stopSpeed }
  | .wrJval _ v => { a with jVal := v }
  | .wrTarget _ v => { a with targetSpeed := v }
  | .wrHval _ v => { a with HVal := v }
  | .wrMode _ g d e => { a with GVal := g, dir := d, gotoEn := e }
  | .wrGotospeed _ v => { a with normalGotoSpeed := v }
  | .wrSidereal _ v => { a with siderealIVal := v }
  | .wrBval _ b => { a with bVal := b, rate := buildRate b }
  | .wrAxcfg _ r => { a with reverse := r }
  | .wrAccel _ n sp r => { a with accel := a.accel.setIfInBounds n ⟨sp, r⟩ }
  | .rd _ _ | .tick _ | .wrGcfg _ _ _ _ _ => a

/-- What an accepted write transaction makes of the global configuration. -/
def Instr.writtenGlob (g : GlobalConfig) : Instr → GlobalConfig
  | .wrGcfg _ m f h a => ⟨m, f, h, a⟩
  | _ => g

/-- The state an accepted write transaction leaves. -/
def Machine.State.written (s : State) (i : Instr) : State :=
  ({ s with glob := i.writtenGlob s.glob }.setAxis i.axis (i.writtenAxis s.glob (s.axis i.axis))).finish i.axis .ok

/-- The code a write transaction ends with in a state. -/
def Machine.State.endCode (s : State) (i : Instr) : Code := i.endCode s.bothStopped (s.axis i.axis)

namespace Machine

variable (s : State) (ax : Axis) (i : Instr)

/-- A transaction that a check `b` gates, with the code `c` where it fails. -/
theorem State.gate_eq {c : Code} (hc : c ≠ .ok) (b : Bool) (t : State) :
    (if b then t.accept ax else s.reject ax c) =
      if (if b then .ok else c) = .ok then t.finish ax .ok else s.finish ax (if b then .ok else c) := by
  cases b <;> simp [hc]

theorem State.writeConfig_eq (check : Bool) (t : State) :
    s.writeConfig ax check t = if configCode s.bothStopped check = .ok then t.finish ax .ok
      else s.finish ax (configCode s.bothStopped check) := by
  unfold State.writeConfig configCode
  cases s.bothStopped
  · rfl
  · exact s.gate_eq ax (c := .range) nofun check t

theorem exec_goto_of_running (h : (s.axis ax).stopped = false) :
    exec (.goto ax) s = .next (s.finish ax .notStopped) :=
  congrArg Host.Outcome.next (if_neg (by simp [h]))

theorem exec_goto_of_stopped (h : (s.axis ax).stopped = true) :
    exec (.goto ax) s = .next (if (s.axis ax).dirConsistent then (s.setAxis ax (s.axis ax).goto).accept ax
      else s.reject ax .inconsistent) :=
  congrArg Host.Outcome.next (if_pos h)

/-- Every write transaction is accepted or refused, as its code says, and a refusal writes the code alone. -/
theorem exec_of_writesErr (h : i.writesErr = true) :
    exec i s = .next (if s.endCode i = .ok then s.written i else s.finish i.axis (s.endCode i)) := by
  cases i with
  | rd | tick => cases h
  | enable | disable | stop | estop | wrJval | wrHval | wrMode => rfl
  | configure ax => exact congrArg Host.Outcome.next (s.gate_eq ax (c := .notStopped) nofun (s.axis ax).stopped _)
  | slew ax | start ax =>
    exact congrArg Host.Outcome.next (s.gate_eq ax (c := .inconsistent) nofun (s.axis ax).dirConsistent _)
  | goto ax =>
    cases hstopped : (s.axis ax).stopped
    · rw [exec_goto_of_running s ax hstopped]
      simp [State.endCode, Instr.endCode, Instr.axis, hstopped]
    · rw [exec_goto_of_stopped s ax hstopped, s.gate_eq ax (c := .inconsistent) nofun]
      simp only [State.endCode, Instr.endCode, Instr.axis, hstopped, if_true]
      rfl
  | retarget ax v | wrTarget ax v =>
    exact congrArg Host.Outcome.next (s.gate_eq ax (c := .range) nofun (speedLegal v) _)
  | wrGotospeed ax v => exact congrArg Host.Outcome.next (s.writeConfig_eq ax (gotoSpeedLegal v) _)
  | wrSidereal ax v => exact congrArg Host.Outcome.next (s.writeConfig_eq ax (siderealLegal Config.params v) _)
  | wrBval ax b => exact congrArg Host.Outcome.next (s.writeConfig_eq ax (bValLegal b) _)
  | wrAxcfg ax r => exact congrArg Host.Outcome.next (s.writeConfig_eq ax true _)
  | wrAccel ax n sp r => exact congrArg Host.Outcome.next (s.writeConfig_eq ax (decide (n ≤ 5) && speedLegal sp) _)
  | wrGcfg ax m f h a =>
    refine congrArg Host.Outcome.next ((s.writeConfig_eq ax (gcfgLegal Config.params m f) _).trans ?_)
    cases ax <;> rfl

/-- What an RD answers with the value read, or with none (44_register_access.md R180). -/
def rdResponse : Option (BitVec 32) → Response
  | some v => ⟨.ok, v⟩
  | none => ⟨.illegal, 0⟩

theorem exec_rd (off : BitVec 7) :
    exec (.rd ax off) s =
      .next (s.respond (rdResponse (s.read ax off)).code (rdResponse (s.read ax off)).data) := by
  obtain ⟨v, hread, hexec⟩ | ⟨hread, hexec⟩ := execRd_cases s ax off
  · rw [hread]
    exact hexec
  · rw [hread]
    exact hexec

@[simp] theorem State.written_axis :
    (s.written i).axis i.axis = { i.writtenAxis s.glob (s.axis i.axis) with err := 0 } := by
  simp [State.written, Code.bits]
@[simp] theorem State.written_other : (s.written i).axis i.axis.other = s.axis i.axis.other := by
  simp [State.written]
@[simp] theorem State.written_glob : (s.written i).glob = i.writtenGlob s.glob := by simp [State.written]
@[simp] theorem State.written_input : (s.written i).input = s.input := by simp [State.written]
@[simp] theorem State.written_response : (s.written i).response = some ⟨.ok, 0⟩ := rfl

/-- Everything an instruction can do: an RD answers, a TICK counts, a write transaction is refused or accepted. -/
inductive State.Does (s : State) : Instr → State → Prop
  | rd (ax : Axis) (off : BitVec 7) :
    s.Does (.rd ax off) (s.respond (rdResponse (s.read ax off)).code (rdResponse (s.read ax off)).data)
  | tick (ax : Axis) : s.Does (.tick ax) (s.setAxis ax (s.axis ax).tick).silent
  | refused {i : Instr} (hw : i.writesErr = true) (hcode : s.endCode i ≠ .ok) : s.Does i (s.finish i.axis (s.endCode i))
  | accepted {i : Instr} (hw : i.writesErr = true) (hcode : s.endCode i = .ok) : s.Does i (s.written i)

theorem exec_does : ∃ t, exec i s = .next t ∧ s.Does i t := by
  have hwrite : i.writesErr = true → ∃ t, exec i s = .next t ∧ s.Does i t := by
    intro hw
    refine ⟨_, exec_of_writesErr s i hw, ?_⟩
    split
    next hok => exact .accepted hw hok
    next hcode => exact .refused hw hcode
  cases i with
  | rd ax off => exact ⟨_, exec_rd s ax off, .rd ax off⟩
  | tick ax => exact ⟨_, exec_tick s ax, .tick ax⟩
  | _ => exact hwrite rfl

variable {s i} in
theorem does_of_exec {t : State} (h : exec i s = .next t) : s.Does i t := by
  obtain ⟨t', ht', hdoes⟩ := exec_does s i
  obtain rfl := Host.Outcome.next.inj (h.symm.trans ht')
  exact hdoes

/-! #### The frame of every instruction -/

section Frame

variable {s i} {t : State}

theorem State.Does.other (h : s.Does i t) : t.axis i.axis.other = s.axis i.axis.other := by
  cases h with
  | rd => exact s.respond_axis _ _ _
  | tick ax => exact (State.silent_axis _ _).trans (s.other_setAxis ax _)
  | refused => exact s.finish_other _ _
  | accepted => exact s.written_other i

theorem State.Does.glob (h : s.Does i t) : t.glob = s.glob ∨ (s.endCode i = .ok ∧ t.glob = i.writtenGlob s.glob) := by
  cases h with
  | rd => exact .inl rfl
  | tick ax => exact .inl (s.setAxis_glob ax _)
  | refused => exact .inl (s.finish_glob _ _)
  | accepted _ hcode => exact .inr ⟨hcode, s.written_glob i⟩

/-- What can become of the axis of an instruction. -/
theorem State.Does.axis (h : s.Does i t) :
    t.axis i.axis = s.axis i.axis ∨
    (i = .tick i.axis ∧ t.axis i.axis = (s.axis i.axis).tick) ∨
    (s.endCode i ≠ .ok ∧ t.axis i.axis = { s.axis i.axis with err := (s.endCode i).bits }) ∨
    (s.endCode i = .ok ∧ t.axis i.axis = { i.writtenAxis s.glob (s.axis i.axis) with err := 0 }) := by
  cases h with
  | rd ax => exact .inl (s.respond_axis _ _ _)
  | tick ax => exact .inr (.inl ⟨rfl, (State.silent_axis _ _).trans (s.axis_setAxis ax _)⟩)
  | refused _ hcode => exact .inr (.inr (.inl ⟨hcode, s.finish_axis _ _⟩))
  | accepted _ hcode => exact .inr (.inr (.inr ⟨hcode, s.written_axis i⟩))

end Frame

/-! #### What the start procedure, a TICK and the aim past the threshold leave as it was -/

section Updates

variable (a : AxisState)

/-- The start procedure writes these ten fields and no other (R154). -/
theorem AxisState.startMotion_eq_update :
    a.startMotion =
      { a with
        stopSpeed := a.startMotion.stopSpeed
        currentSpeed := a.startMotion.currentSpeed
        dirPin := a.startMotion.dirPin
        accelIndex := a.startMotion.accelIndex
        accelRepeatsLeft := a.startMotion.accelRepeatsLeft
        distributionSegment := a.startMotion.distributionSegment
        irqToNext := a.startMotion.irqToNext
        timerTop := a.startMotion.timerTop
        stopped := a.startMotion.stopped
        timerOn := a.startMotion.timerOn } := by
  obtain ⟨-, h⟩ | ⟨-, h⟩ := a.startMotion_cases
  · rw [h]
    rfl
  · rw [h]
    rfl

/-- STOP and the goto trigger write the target, and the model's own counter (log entry 15). -/
theorem AxisState.aimPastStop_eq_update :
    a.aimPastStop = { a with targetSpeed := a.aimPastStop.targetSpeed, freeCount := a.aimPastStop.freeCount } := by
  obtain ⟨v, n, h, -⟩ := a.aimPastStop_cases
  rw [h]

theorem AxisState.trigger_eq_update :
    a.trigger =
      { a with
        targetSpeed := a.trigger.targetSpeed
        gotoDecelerating := a.trigger.gotoDecelerating
        freeCount := a.trigger.freeCount } := by
  obtain ⟨-, -, -, h⟩ | ⟨-, h⟩ := a.trigger_cases
  · rw [h, AxisState.aimPastStop_eq_update]
  · rw [h]

theorem AxisState.stopCheck_eq_update :
    a.stopCheck =
      { a with
        stopped := a.stopCheck.stopped
        gotoRunning := a.stopCheck.gotoRunning
        timerOn := a.stopCheck.timerOn } := by
  obtain ⟨-, h⟩ | ⟨-, h⟩ := a.stopCheck_cases <;> rw [h]

/-- The walk moves the cursor, the speed in effect and the dwell (R138 to R140). -/
theorem AxisState.walk_eq_update :
    a.walk =
      { a with
        currentSpeed := a.walk.currentSpeed
        accelIndex := a.walk.accelIndex
        accelRepeatsLeft := a.walk.accelRepeatsLeft } := by
  obtain ⟨-, h⟩ | ⟨-, h⟩ | ⟨-, h⟩ := a.walk_cases
  · obtain ⟨-, h'⟩ | ⟨-, -, h'⟩ | ⟨-, -, h'⟩ := a.accelerate_cases <;> rw [h, h']
  · obtain ⟨-, h'⟩ | ⟨-, -, h'⟩ | ⟨-, -, h'⟩ := a.decelerate_cases <;> rw [h, h']
  · rw [h]

theorem AxisState.fall_eq_update :
    a.fall =
      { a with
        jVal := a.fall.jVal
        targetSpeed := a.fall.targetSpeed
        stopped := a.fall.stopped
        gotoRunning := a.fall.gotoRunning
        gotoDecelerating := a.fall.gotoDecelerating
        timerOn := a.fall.timerOn
        stepPin := a.fall.stepPin
        freeCount := a.fall.freeCount } := by
  rw [AxisState.fall, AxisState.stopCheck_eq_update, AxisState.trigger_eq_update]
  rfl

theorem AxisState.rise_eq_update :
    a.rise =
      { a with
        currentSpeed := a.rise.currentSpeed
        accelIndex := a.rise.accelIndex
        accelRepeatsLeft := a.rise.accelRepeatsLeft
        stepPin := a.rise.stepPin } := by
  obtain ⟨-, h⟩ | ⟨-, h⟩ := a.rise_cases
  · rw [h]
  · rw [h, AxisState.walk_eq_update]

/-- A TICK writes these fields and no other (R131 to R140). -/
theorem AxisState.tick_eq_update :
    a.tick =
      { a with
        jVal := a.tick.jVal
        targetSpeed := a.tick.targetSpeed
        currentSpeed := a.tick.currentSpeed
        stopped := a.tick.stopped
        gotoRunning := a.tick.gotoRunning
        gotoDecelerating := a.tick.gotoDecelerating
        accelIndex := a.tick.accelIndex
        accelRepeatsLeft := a.tick.accelRepeatsLeft
        distributionSegment := a.tick.distributionSegment
        irqToNext := a.tick.irqToNext
        timerOn := a.tick.timerOn
        timerTop := a.tick.timerTop
        stepPin := a.tick.stepPin
        freeCount := a.tick.freeCount } := by
  obtain ⟨-, h⟩ | ⟨-, -, h⟩ | ⟨-, -, -, h⟩ | ⟨-, -, -, h⟩ := a.tick_cases
  · rw [h]
  · rw [h]
  · rw [h, AxisState.fall_eq_update]
    rfl
  · rw [h, AxisState.rise_eq_update]
    rfl

@[simp] theorem AxisState.tick_err : a.tick.err = a.err := by rw [AxisState.tick_eq_update]
@[simp] theorem AxisState.tick_dirPin : a.tick.dirPin = a.dirPin := by rw [AxisState.tick_eq_update]
@[simp] theorem AxisState.tick_config : a.tick.config = a.config := by rw [AxisState.tick_eq_update]; rfl

theorem AxisState.startMotion_stopped : a.startMotion.stopped = false := by
  obtain ⟨-, h⟩ | ⟨hrun, h⟩ := a.startMotion_cases
  · rw [h, AxisState.startFresh_stopped]
  · rw [h, AxisState.startCommon_stopped, hrun]

theorem AxisState.startMotion_dirPin : a.startMotion.dirPin = (a.dir ^^ a.reverse) := by
  obtain ⟨-, h⟩ | ⟨-, h⟩ := a.startMotion_cases <;> rw [h] <;> rfl

end Updates

theorem Axis.eq_or_eq_other (a b : Axis) : a = b ∨ a = b.other := by
  cases a <;> cases b <;> simp [Axis.other]

/-! #### Codes and `err` -/

/-- Settles O47: the end of a write transaction is one and the same for all, and RD and TICK have no such end. -/
theorem errHoldsLastCode : Obligations.ErrHoldsLastCode := by
  intro i s
  obtain ⟨t, ht, hdoes⟩ := exec_does s i
  refine ⟨t, ht, congrArg AxisState.err hdoes.other, ?_⟩
  cases hdoes with
  | rd ax => exact ⟨nofun, fun _ => congrArg AxisState.err (s.respond_axis ax _ _)⟩
  | tick ax =>
    exact ⟨nofun, fun _ => by simp [Instr.axis]⟩
  | refused hw => exact ⟨fun _ => ⟨_, s.finish_response _ _, by rw [State.finish_axis]⟩,
      fun hn => by simp [hw] at hn⟩
  | accepted hw => exact ⟨fun _ => ⟨_, s.written_response i, by rw [State.written_axis]; rfl⟩,
      fun hn => by simp [hw] at hn⟩

/-- Settles O48: of all that an instruction can do, only a refusal and an RD of what cannot be read answer
another code. -/
theorem rejectedChangesOnlyErr : Obligations.RejectedChangesOnlyErr := by
  intro i s t r hexec hresp hcode
  cases does_of_exec hexec with
  | rd ax off =>
    obtain rfl := Option.some.inj hresp
    have hdata : (rdResponse (s.read ax off)).data = 0 := by
      cases hread : s.read ax off
      · rfl
      · rw [hread] at hcode
        exact absurd rfl hcode
    exact ⟨hdata, rfl, s.respond_axis _ _ _, rfl, s.respond_axis _ _ _⟩
  | tick => cases hresp
  | refused hw =>
    obtain rfl := Option.some.inj hresp
    exact ⟨rfl, s.finish_glob _ _, s.finish_other _ _, s.finish_input _ _, by rw [if_pos hw, State.finish_axis]⟩
  | accepted =>
    obtain rfl := Option.some.inj hresp
    exact absurd rfl hcode

theorem configCode_mem (both check : Bool) : configCode both check ∈ [.ok, .busy, .range] := by
  cases both <;> cases check <;> decide

theorem ite_code_mem (b : Bool) (c d : Code) : (if b then c else d) ∈ [c, d] := by
  cases b <;> simp

/-- The code of a write transaction is one that R235 lists for it. -/
theorem endCode_mem_codes (h : i.writesErr = true) : s.endCode i ∈ i.codes := by
  cases i with
  | rd | tick => cases h
  | enable | disable | stop | estop | wrJval | wrHval | wrMode => exact List.mem_singleton_self _
  | configure | slew | start | retarget | wrTarget => exact ite_code_mem _ _ _
  | goto ax =>
    cases hstopped : (s.axis ax).stopped <;> cases hdir : (s.axis ax).dirConsistent <;>
      simp [State.endCode, Instr.endCode, Instr.codes, Instr.axis, hstopped, hdir]
  | wrGotospeed | wrSidereal | wrBval | wrAccel | wrGcfg => exact configCode_mem _ _
  | wrAxcfg =>
    simp only [State.endCode, Instr.endCode, Instr.codes, configCode]
    split_ifs <;> decide

/-- Settles O49. -/
theorem codesPerInstruction : Obligations.CodesPerInstruction := by
  intro i s
  obtain ⟨t, ht, hdoes⟩ := exec_does s i
  refine ⟨t, ht, ?_⟩
  cases hdoes with
  | rd ax off =>
    refine ⟨nofun, fun _ => ⟨_, rfl, ?_⟩⟩
    cases s.read ax off <;> simp [rdResponse, Instr.codes]
  | tick => exact ⟨fun _ => rfl, fun h => absurd rfl h⟩
  | refused hw =>
    have hmem := endCode_mem_codes s i hw
    exact ⟨fun hnone => by simp [hnone] at hmem, fun _ => ⟨_, s.finish_response _ _, hmem⟩⟩
  | accepted hw hok =>
    have hmem := hok ▸ endCode_mem_codes s i hw
    exact ⟨fun hnone => by simp [hnone] at hmem, fun _ => ⟨_, s.written_response i, hmem⟩⟩

/-! #### Which instruction writes which field -/

section Writers

variable (a : AxisState) (g : GlobalConfig)

/-- The fields that one instruction each writes, where the transaction is accepted: `jVal` (R22), the signed step and
the mode (R28, R29, R45), the goto's plan (R33, R34), the driver enable (R44); the step pin is the engine's (R42). -/
theorem Instr.writtenAxis_frame :
    ((∀ v, i ≠ .wrJval i.axis v) → (i.writtenAxis g a).jVal = a.jVal) ∧
    (i ≠ .configure i.axis → (i.writtenAxis g a).stepDir = a.stepDir ∧
      (i.writtenAxis g a).highSpeedMode = a.highSpeedMode ∧ (i.writtenAxis g a).modeSel = a.modeSel) ∧
    (i ≠ .goto i.axis → (i.writtenAxis g a).gotoTarget = a.gotoTarget ∧
      (i.writtenAxis g a).decelLength = a.decelLength) ∧
    (i ≠ .enable i.axis → i ≠ .disable i.axis → (i.writtenAxis g a).enablePin = a.enablePin ∧
      (i.writtenAxis g a).enabled = a.enabled) ∧
    (i.writtenAxis g a).stepPin = a.stepPin := by
  cases i with
  | wrJval ax v =>
    exact ⟨fun h => absurd rfl (h v), fun _ => ⟨rfl, rfl, rfl⟩, fun _ => ⟨rfl, rfl⟩, fun _ _ => ⟨rfl, rfl⟩, rfl⟩
  | configure => exact ⟨fun _ => rfl, fun h => absurd rfl h, fun _ => ⟨rfl, rfl⟩, fun _ _ => ⟨rfl, rfl⟩, rfl⟩
  | enable => exact ⟨fun _ => rfl, fun _ => ⟨rfl, rfl, rfl⟩, fun _ => ⟨rfl, rfl⟩, fun h => absurd rfl h, rfl⟩
  | disable => exact ⟨fun _ => rfl, fun _ => ⟨rfl, rfl, rfl⟩, fun _ => ⟨rfl, rfl⟩, fun _ h => absurd rfl h, rfl⟩
  | goto =>
    simp only [Instr.writtenAxis, AxisState.goto]
    rw [AxisState.startMotion_eq_update]
    exact ⟨fun _ => rfl, fun _ => ⟨rfl, rfl, rfl⟩, fun h => absurd rfl h, fun _ _ => ⟨rfl, rfl⟩, rfl⟩
  | slew | start =>
    simp only [Instr.writtenAxis, AxisState.slew]
    rw [AxisState.startMotion_eq_update]
    exact ⟨fun _ => rfl, fun _ => ⟨rfl, rfl, rfl⟩, fun _ => ⟨rfl, rfl⟩, fun _ _ => ⟨rfl, rfl⟩, rfl⟩
  | stop =>
    simp only [Instr.writtenAxis]
    rw [AxisState.aimPastStop_eq_update]
    exact ⟨fun _ => rfl, fun _ => ⟨rfl, rfl, rfl⟩, fun _ => ⟨rfl, rfl⟩, fun _ _ => ⟨rfl, rfl⟩, rfl⟩
  | _ => exact ⟨fun _ => rfl, fun _ => ⟨rfl, rfl, rfl⟩, fun _ => ⟨rfl, rfl⟩, fun _ _ => ⟨rfl, rfl⟩, rfl⟩

/-- The tables and the configuration values, where not both axes are stopped (R70, R73): the writes to them end with
BUSY. -/
theorem Instr.writtenAxis_config (h : i.endCode false a = .ok) : (i.writtenAxis g a).config = a.config := by
  cases i with
  | goto | slew | start =>
    simp only [Instr.writtenAxis, AxisState.slew, AxisState.goto]
    rw [AxisState.startMotion_eq_update]
    rfl
  | stop =>
    simp only [Instr.writtenAxis]
    rw [AxisState.aimPastStop_eq_update]
    rfl
  | wrGotospeed | wrSidereal | wrBval | wrAxcfg | wrAccel => cases h
  | _ => rfl

theorem Instr.writtenGlob_of_running (h : i.endCode false a = .ok) : i.writtenGlob g = g := by
  cases i with
  | wrGcfg => cases h
  | _ => rfl

theorem Instr.writtenGlob_of_ne (h : ∀ ax m f h a, i ≠ .wrGcfg ax m f h a) : i.writtenGlob g = g := by
  cases i with
  | wrGcfg ax m f hs adv => exact absurd rfl (h ax m f hs adv)
  | _ => rfl

/-- ESTOP stops, START, SLEW and GOTO start (R40); no other write transaction does either. -/
theorem Instr.writtenAxis_stopped :
    (i = .estop i.axis ∧ (i.writtenAxis g a).stopped = true) ∨
    ((i = .start i.axis ∨ i = .slew i.axis ∨ i = .goto i.axis) ∧ (i.writtenAxis g a).stopped = false) ∨
    (i.writtenAxis g a).stopped = a.stopped := by
  cases i with
  | estop => exact .inl ⟨rfl, rfl⟩
  | start => exact .inr (.inl ⟨.inl rfl, AxisState.startMotion_stopped _⟩)
  | slew => exact .inr (.inl ⟨.inr (.inl rfl), AxisState.startMotion_stopped _⟩)
  | goto => exact .inr (.inl ⟨.inr (.inr rfl), AxisState.startMotion_stopped _⟩)
  | stop =>
    simp only [Instr.writtenAxis]
    rw [AxisState.aimPastStop_eq_update]
    exact .inr (.inr rfl)
  | _ => exact .inr (.inr rfl)

/-! #### What the engine's fall does to the position and to the running of the axis -/

/-- The signed step is added modulo 2^24 (R134). -/
theorem add_signExtend_eq_ofInt (j : BitVec 24) (d : BitVec 8) :
    j + d.signExtend 24 = BitVec.ofInt 24 (j.toNat + d.toInt) := by
  rw [BitVec.ofInt_add, BitVec.ofInt_natCast, BitVec.ofNat_toNat, BitVec.setWidth_eq]
  rfl

theorem AxisState.fall_stepPin : a.fall.stepPin = false := by
  rw [AxisState.fall, AxisState.stopCheck_eq_update, AxisState.trigger_eq_update]
  rfl

theorem AxisState.fall_jVal : a.fall.jVal = BitVec.ofInt 24 (a.jVal.toNat + a.stepDir.toInt) := by
  rw [← add_signExtend_eq_ofInt, AxisState.fall, AxisState.stopCheck_eq_update, AxisState.trigger_eq_update]
  rfl

/-- A fall stops the axis exactly where it is slower than its threshold (R136). -/
theorem AxisState.fall_stopped : a.fall.stopped = (a.stopped || decide (a.stopSpeed < a.currentSpeed)) := by
  have hspeeds : a.completePulse.trigger.stopSpeed = a.stopSpeed ∧
      a.completePulse.trigger.currentSpeed = a.currentSpeed ∧
      a.completePulse.trigger.stopped = a.stopped := by
    rw [AxisState.trigger_eq_update]
    exact ⟨rfl, rfl, rfl⟩
  obtain ⟨hstop, hcur, hstopped⟩ := hspeeds
  obtain ⟨hslow, h⟩ | ⟨hnot, h⟩ := a.completePulse.trigger.stopCheck_cases
  · rw [AxisState.fall, h, ← hstop, ← hcur, decide_eq_true hslow, Bool.or_true]
  · rw [AxisState.fall, h, ← hstop, ← hcur, decide_eq_false hnot, Bool.or_false, hstopped]

/-- A TICK moves the position only where it is a fall (R134). -/
theorem AxisState.tick_jVal :
    a.tick.jVal = a.jVal ∨
    (a.stepPin = true ∧ a.tick.stepPin = false ∧
      a.tick.jVal = BitVec.ofInt 24 (a.jVal.toNat + a.stepDir.toInt)) := by
  obtain ⟨-, h⟩ | ⟨-, -, h⟩ | ⟨-, -, hpin, h⟩ | ⟨-, -, -, h⟩ := a.tick_cases
  · exact .inl (by rw [h])
  · exact .inl (by rw [h])
  · exact .inr ⟨hpin, by rw [h, AxisState.fall_stepPin], by rw [h, AxisState.fall_jVal]; rfl⟩
  · exact .inl (by rw [h, AxisState.rise_eq_update]; rfl)

/-- A TICK starts no axis, and stops one only by a fall slower than the threshold (R136). -/
theorem AxisState.tick_stopped :
    a.tick.stopped = a.stopped ∨
    (a.timerOn = true ∧ a.irqToNext = 1 ∧ a.stepPin = true ∧ a.stopSpeed.toNat < a.currentSpeed.toNat ∧
      a.tick.stopped = true) := by
  obtain ⟨-, h⟩ | ⟨-, -, h⟩ | ⟨ht, hirq, hpin, h⟩ | ⟨-, -, -, h⟩ := a.tick_cases
  · exact .inl (by rw [h])
  · exact .inl (by rw [h])
  · rw [h, AxisState.fall_stopped]
    by_cases hslow : a.stopSpeed < a.currentSpeed
    · exact .inr ⟨ht, hirq, hpin, BitVec.lt_def.mp hslow, by simp [hslow]⟩
    · exact .inl (by simp [hslow])
  · exact .inl (by rw [h, AxisState.rise_eq_update]; rfl)

end Writers

/-! #### Whole-machine rules -/

/-- Settles O52: a write transaction other than WR.JVAL keeps the position, and a TICK that moves it is a fall. -/
theorem jValWriters : Obligations.JValWriters := by
  intro i s t ax hexec hchanged
  have hdoes := does_of_exec hexec
  obtain rfl | rfl := Axis.eq_or_eq_other ax i.axis
  · obtain h | ⟨hi, h⟩ | ⟨-, h⟩ | ⟨-, h⟩ := hdoes.axis
    · exact absurd (congrArg AxisState.jVal h) hchanged
    · rw [h] at hchanged ⊢
      obtain hsame | hfall := (s.axis i.axis).tick_jVal
      · exact absurd hsame hchanged
      · exact .inr ⟨hi, hfall⟩
    · exact absurd (congrArg AxisState.jVal h) hchanged
    · by_contra hother
      refine hchanged ?_
      rw [h]
      exact (Instr.writtenAxis_frame i _ _).1 fun v hv => hother (.inl ⟨v, hv⟩)
  · exact absurd (congrArg AxisState.jVal hdoes.other) hchanged

/-- Settles O53. -/
theorem singleWriters : Obligations.SingleWriters := by
  intro i s t ax hexec
  have hdoes := does_of_exec hexec
  obtain rfl | rfl := Axis.eq_or_eq_other ax i.axis
  · obtain h | ⟨hi, h⟩ | ⟨-, h⟩ | ⟨-, h⟩ := hdoes.axis
    · rw [h]
      exact ⟨fun _ => ⟨rfl, rfl, rfl⟩, fun _ => ⟨rfl, rfl⟩, fun _ _ => ⟨rfl, rfl⟩, fun _ => rfl⟩
    · rw [h, AxisState.tick_eq_update]
      exact ⟨fun _ => ⟨rfl, rfl, rfl⟩, fun _ => ⟨rfl, rfl⟩, fun _ _ => ⟨rfl, rfl⟩, fun hn => absurd hi hn⟩
    · rw [h]
      exact ⟨fun _ => ⟨rfl, rfl, rfl⟩, fun _ => ⟨rfl, rfl⟩, fun _ _ => ⟨rfl, rfl⟩, fun _ => rfl⟩
    · rw [h]
      obtain ⟨-, hmode, hplan, henable, hpin⟩ := Instr.writtenAxis_frame i (s.axis i.axis) s.glob
      exact ⟨hmode, hplan, henable, fun _ => hpin⟩
  · rw [hdoes.other]
    exact ⟨fun _ => ⟨rfl, rfl, rfl⟩, fun _ => ⟨rfl, rfl⟩, fun _ _ => ⟨rfl, rfl⟩, fun _ => rfl⟩

theorem State.bothStopped_eq (s : State) (ax : Axis) :
    s.bothStopped = ((s.axis ax).stopped && (s.axis ax.other).stopped) := by
  cases ax
  · rfl
  · exact Bool.and_comm _ _

/-- Settles O54: with an axis running the accepted writes are those that keep tables and configuration. -/
theorem configFrozenWhileRunning : Obligations.ConfigFrozenWhileRunning := by
  intro i s t hrunning hexec
  have hdoes := does_of_exec hexec
  have hcode : s.endCode i = i.endCode false (s.axis i.axis) := by
    rw [State.endCode, s.bothStopped_eq_false_iff.mpr hrunning]
  have hown : (t.axis i.axis).config = (s.axis i.axis).config := by
    obtain h | ⟨-, h⟩ | ⟨-, h⟩ | ⟨hok, h⟩ := hdoes.axis
    · rw [h]
    · rw [h, AxisState.tick_config]
    · rw [h]
      rfl
    · rw [h]
      exact Instr.writtenAxis_config i _ _ (hcode ▸ hok)
  have hother : (t.axis i.axis.other).config = (s.axis i.axis.other).config := by rw [hdoes.other]
  have hglob : t.glob = s.glob := by
    obtain h | ⟨hok, h⟩ := hdoes.glob
    · exact h
    · rw [h, Instr.writtenGlob_of_running i _ _ (hcode ▸ hok)]
  cases hax : i.axis <;> rw [hax] at hown hother
  · exact ⟨hown, hother, hglob⟩
  · exact ⟨hother, hown, hglob⟩

/-- Settles O55. -/
theorem armAndDisarm : Obligations.ArmAndDisarm := by
  intro i s t ax hexec
  have hdoes := does_of_exec hexec
  obtain rfl | rfl := Axis.eq_or_eq_other ax i.axis
  · have hsame : (t.axis i.axis).stopped = (s.axis i.axis).stopped →
        ((s.axis i.axis).stopped = false → (t.axis i.axis).stopped = true → False) ∧
        ((s.axis i.axis).stopped = true → (t.axis i.axis).stopped = false → False) := by
      intro h
      rw [h]
      simp
    obtain h | ⟨hi, h⟩ | ⟨-, h⟩ | ⟨-, h⟩ := hdoes.axis
    · obtain ⟨hstop, hstart⟩ := hsame (by rw [h])
      exact ⟨fun hr hs => (hstop hr hs).elim, fun hs hr => (hstart hs hr).elim⟩
    · obtain hkeep | ⟨ht, hirq, hpin, hslow, hstopped⟩ := (s.axis i.axis).tick_stopped
      · obtain ⟨hstop, hstart⟩ := hsame (by rw [h, hkeep])
        exact ⟨fun hr hs => (hstop hr hs).elim, fun hs hr => (hstart hs hr).elim⟩
      · exact ⟨fun _ _ => .inr ⟨hi, ht, hirq, hpin, hslow⟩, fun _ hr => by simp [h, hstopped] at hr⟩
    · obtain ⟨hstop, hstart⟩ := hsame (by rw [h])
      exact ⟨fun hr hs => (hstop hr hs).elim, fun hs hr => (hstart hs hr).elim⟩
    · obtain ⟨hi, hstopped⟩ | ⟨hi, hrunning⟩ | hkeep := Instr.writtenAxis_stopped i (s.axis i.axis) s.glob
      · exact ⟨fun _ _ => .inl hi, fun _ hr => by simp [h, hstopped] at hr⟩
      · exact ⟨fun _ hs => by simp [h, hrunning] at hs, fun _ _ => hi⟩
      · obtain ⟨hstop, hstart⟩ := hsame (by rw [h]; exact hkeep)
        exact ⟨fun hr hs => (hstop hr hs).elim, fun hs hr => (hstart hs hr).elim⟩
  · rw [hdoes.other]
    exact ⟨fun hr hs => by simp [hr] at hs, fun hs hr => by simp [hs] at hr⟩

/-- A register is read from the axis and the global configuration. -/
theorem State.read_congr {s s' : State} {ax : Axis} (haxis : s.axis ax = s'.axis ax) (hglob : s.glob = s'.glob)
    (off : BitVec 7) : s.read ax off = s'.read ax off := by
  have hreg : ∀ r, s.readReg ax r = s'.readReg ax r := fun r => by simp only [State.readReg, haxis, hglob]
  simp only [State.read, hreg]

/-- Settles O50: what an instruction does is read off its axis, the global configuration and `bothStopped`. -/
theorem axesIndependent : Obligations.AxesIndependent := by
  refine ⟨fun i s t hexec => ?_, fun i s s' t t' haxis hglob hother ht ht' => ?_⟩
  · have hdoes := does_of_exec hexec
    refine ⟨hdoes.other, fun hne => ?_⟩
    obtain h | ⟨-, h⟩ := hdoes.glob
    · exact h
    · rw [h, Instr.writtenGlob_of_ne i _ hne]
  · have hwrite : i.writesErr = true →
        t.axis i.axis = t'.axis i.axis ∧ t.glob = t'.glob ∧ t.response = t'.response := by
      intro hw
      have hcode : s.endCode i = s'.endCode i := by
        rw [State.endCode, State.endCode, s.bothStopped_eq i.axis, s'.bothStopped_eq i.axis, haxis, hother]
      obtain rfl := Host.Outcome.next.inj ((exec_of_writesErr s i hw).symm.trans ht)
      obtain rfl := Host.Outcome.next.inj ((exec_of_writesErr s' i hw).symm.trans ht')
      rw [hcode]
      split
      · simp only [State.written_axis, State.written_glob, State.written_response, haxis, hglob, and_self]
      · simp only [State.finish_axis, State.finish_glob, State.finish_response, haxis, hglob, and_self]
    cases i with
    | rd ax off =>
      obtain rfl := Host.Outcome.next.inj ((exec_rd s ax off).symm.trans ht)
      obtain rfl := Host.Outcome.next.inj ((exec_rd s' ax off).symm.trans ht')
      have haxis : s.axis ax = s'.axis ax := haxis
      simp only [Instr.axis, State.respond_axis, State.respond_glob, State.respond_response,
        State.read_congr haxis hglob, haxis, hglob, and_self]
    | tick ax =>
      obtain rfl := Host.Outcome.next.inj ((exec_tick s ax).symm.trans ht)
      obtain rfl := Host.Outcome.next.inj ((exec_tick s' ax).symm.trans ht')
      have haxis : s.axis ax = s'.axis ax := haxis
      simp only [Instr.axis, State.silent_axis, State.axis_setAxis, State.silent_glob, State.setAxis_glob,
        State.silent_response, haxis, hglob, and_self]
    | _ => exact hwrite rfl

/-- Settles O51: the TICKs write different axes. -/
theorem ticksCommute : Obligations.TicksCommute :=
  fun _ => ⟨_, _, _, rfl, rfl, rfl, rfl⟩

/-! #### Writing twice, and reading back (20_memory.md R63, R65) -/

end Machine

/-- The writes of R65: every WR but the one to CMD. -/
def Instr.isWr : Instr → Bool
  | .wrJval _ _ | .wrTarget _ _ | .wrHval _ _ | .wrMode _ _ _ _ | .wrGotospeed _ _ | .wrSidereal _ _ | .wrBval _ _
  | .wrAxcfg _ _ | .wrAccel _ _ _ _ | .wrGcfg _ _ _ _ _ => true
  | _ => false

theorem Instr.writesErr_of_isWr {i : Instr} (h : i.isWr = true) : i.writesErr = true := by
  cases i with
  | rd | tick => cases h
  | _ => rfl

/-- The check of a WR does not look at its axis. -/
theorem Instr.endCode_of_isWr {i : Instr} (h : i.isWr = true) (both : Bool) (a b : Machine.AxisState) :
    i.endCode both a = i.endCode both b := by
  cases i with
  | configure | slew | goto | start | retarget => cases h
  | _ => rfl

/-- Writing the same value twice is writing it once, also with the code of the first write in between. -/
theorem Instr.writtenAxis_writtenAxis {i : Instr} (h : i.isWr = true) (g g' : GlobalConfig) (a : Machine.AxisState)
    (e : BitVec 4) :
    { i.writtenAxis g' { i.writtenAxis g a with err := e } with err := e } = { i.writtenAxis g a with err := e } := by
  cases i with
  | wrAccel ax n sp r => simp [Instr.writtenAxis]
  | rd | tick | enable | disable | configure | slew | goto | start | stop | estop | retarget => cases h
  | _ => rfl

theorem Instr.writtenGlob_writtenGlob (i : Instr) (g : GlobalConfig) :
    i.writtenGlob (i.writtenGlob g) = i.writtenGlob g := by
  cases i <;> rfl

/-- A WR changes no `stopped` bit. -/
theorem Instr.writtenAxis_stopped_of_isWr {i : Instr} (h : i.isWr = true) (g : GlobalConfig) (a : Machine.AxisState) :
    (i.writtenAxis g a).stopped = a.stopped := by
  cases i with
  | slew | goto | start | stop | estop => cases h
  | _ => rfl

namespace Machine

theorem State.finish_finish (s : State) (ax : Axis) (c : Code) : (s.finish ax c).finish ax c = s.finish ax c := by
  cases ax <;> rfl

theorem State.bothStopped_congr {s t : State} (ax : Axis) (h : (t.axis ax).stopped = (s.axis ax).stopped)
    (hother : (t.axis ax.other).stopped = (s.axis ax.other).stopped) : t.bothStopped = s.bothStopped := by
  rw [t.bothStopped_eq ax, s.bothStopped_eq ax, h, hother]

/-- A WR repeated at once ends as the first did. -/
theorem exec_wr_twice (s : State) {i : Instr} (h : i.isWr = true) : ∃ t, exec i s = .next t ∧ exec i t = .next t := by
  have hw := Instr.writesErr_of_isWr h
  by_cases hok : s.endCode i = .ok
  · have hboth : (s.written i).bothStopped = s.bothStopped :=
      State.bothStopped_congr i.axis (by rw [State.written_axis]; exact Instr.writtenAxis_stopped_of_isWr h _ _)
        (by rw [State.written_other])
    have hok' : (s.written i).endCode i = .ok := by
      rw [State.endCode, hboth, Instr.endCode_of_isWr h s.bothStopped _ (s.axis i.axis)]
      exact hok
    refine ⟨s.written i, by rw [exec_of_writesErr s i hw, if_pos hok], ?_⟩
    rw [exec_of_writesErr _ i hw, if_pos hok']
    refine congrArg Host.Outcome.next (State.ext_axis i.axis ?_ ?_ ?_ rfl ?_)
    · rw [State.written_axis, State.written_axis, Instr.writtenAxis_writtenAxis h]
    · rw [State.written_other]
    · rw [State.written_glob, State.written_glob, Instr.writtenGlob_writtenGlob]
    · rw [State.written_input]
  · have hboth : (s.finish i.axis (s.endCode i)).bothStopped = s.bothStopped :=
      State.bothStopped_congr i.axis (by rw [State.finish_axis]) (by rw [State.finish_other])
    have hcode : (s.finish i.axis (s.endCode i)).endCode i = s.endCode i := by
      rw [State.endCode, hboth, Instr.endCode_of_isWr h s.bothStopped _ (s.axis i.axis)]
      rfl
    refine ⟨s.finish i.axis (s.endCode i), by rw [exec_of_writesErr s i hw, if_neg hok], ?_⟩
    rw [exec_of_writesErr _ i hw, hcode, if_neg hok, State.finish_finish]

/-- Settles O46. -/
theorem writesIdempotent : Obligations.WritesIdempotent := by
  intro s i hwr
  refine exec_wr_twice s ?_
  obtain ⟨ax, v, rfl⟩ | ⟨ax, v, rfl⟩ | ⟨ax, v, rfl⟩ | ⟨ax, g, d, e, rfl⟩ | ⟨ax, v, rfl⟩ | ⟨ax, v, rfl⟩ | ⟨ax, b, rfl⟩ |
    ⟨ax, r, rfl⟩ | ⟨ax, n, sp, r, rfl⟩ | ⟨ax, m, f, h, a, rfl⟩ := hwr
  all_goals rfl

/-- A write transaction answered OK was accepted. -/
theorem eq_written_of_ok {s t : State} {i : Instr} (hw : i.writesErr = true) (hexec : exec i s = .next t)
    (hresp : t.response = some ⟨.ok, 0⟩) : s.endCode i = .ok ∧ t = s.written i := by
  obtain rfl := Host.Outcome.next.inj ((exec_of_writesErr s i hw).symm.trans hexec)
  by_cases hok : s.endCode i = .ok
  · exact ⟨hok, if_pos hok⟩
  · rw [if_neg hok, State.finish_response] at hresp
    exact absurd (congrArg Response.code (Option.some.inj hresp)) hok

theorem setWidth_eq_ofNat {w : Nat} {x : BitVec w} {v : Nat} (h : x.toNat = v) : x.setWidth 32 = BitVec.ofNat 32 v := by
  rw [← h, BitVec.ofNat_toNat]

theorem configCode_eq_ok {both check : Bool} (h : configCode both check = .ok) : both = true ∧ check = true := by
  cases both <;> cases check <;> simp_all [configCode]

/-- After an accepted write an RD answers what the register holds in the written state. -/
theorem read_of_accepted {s t : State} {i : Instr} {v : BitVec 32} (hw : i.writesErr = true) (r : Reg)
    (hr : r.readable = true) (hexec : exec i s = .next t) (hresp : t.response = some ⟨.ok, 0⟩)
    (hv : (s.written i).readReg i.axis r = v) : t.read i.axis r.offset = some v := by
  obtain ⟨-, rfl⟩ := eq_written_of_ok hw hexec hresp
  rw [State.read_of_reg _ _ r hr, hv]

/-- The same for a packed register, whose value is the number its layout gives. -/
theorem read_of_accepted_packed {s t : State} {i : Instr} {w v : Nat} (hw : i.writesErr = true) (r : Reg)
    (hr : r.readable = true) (hexec : exec i s = .next t) (hresp : t.response = some ⟨.ok, 0⟩) {x : BitVec w}
    (hread : (s.written i).readReg i.axis r = x.setWidth 32) (hx : x.toNat = v) :
    t.read i.axis r.offset = some (BitVec.ofNat 32 v) :=
  read_of_accepted hw r hr hexec hresp (hread.trans (setWidth_eq_ofNat hx))

/-- Settles O45: the register is read from the axis, or the global configuration, that the accepted write left. -/
theorem readsOwnWrites : Obligations.ReadsOwnWrites := by
  intro s t ax i hexec hresp
  have hentry : ∀ (n : Nat) (sp : BitVec 16) (r : BitVec 8) (hn : n < 6),
      ((s.axis ax).accel.setIfInBounds n ⟨sp, r⟩)[n] = ⟨sp, r⟩ :=
    fun n sp r hn => Vector.getElem_setIfInBounds_self hn
  refine ⟨?jval, ?target, ?hval, ?gotospeed, ?sidereal, ?bval, ?mode, ?axcfg, ?accel, ?minspeed, ?gcfg⟩
  case jval =>
    rintro v rfl
    exact read_of_accepted rfl .jval rfl hexec hresp (by rw [State.readReg, State.written_axis]; rfl)
  case target =>
    rintro v rfl
    exact read_of_accepted rfl .target rfl hexec hresp (by rw [State.readReg, State.written_axis]; rfl)
  case hval =>
    rintro v rfl
    exact read_of_accepted rfl .hval rfl hexec hresp (by rw [State.readReg, State.written_axis]; rfl)
  case gotospeed =>
    rintro v rfl
    exact read_of_accepted rfl .gotospeed rfl hexec hresp (by rw [State.readReg, State.written_axis]; rfl)
  case sidereal =>
    rintro v rfl
    exact read_of_accepted rfl .sidereal rfl hexec hresp (by rw [State.readReg, State.written_axis]; rfl)
  case bval =>
    rintro v rfl
    exact read_of_accepted rfl .bval rfl hexec hresp (by rw [State.readReg, State.written_axis]; rfl)
  case mode =>
    rintro g d e rfl
    refine read_of_accepted_packed (i := .wrMode ax g d e) rfl .mode rfl hexec hresp rfl ?_
    rw [AxisState.mode_toNat, State.written_axis]
    rfl
  case axcfg =>
    rintro r rfl
    refine read_of_accepted_packed (i := .wrAxcfg ax r) rfl .axcfg rfl hexec hresp rfl ?_
    rw [BitVec.toNat_ofBool, State.written_axis]
    rfl
  case accel =>
    rintro n sp r rfl
    obtain ⟨hok, -⟩ := eq_written_of_ok rfl hexec hresp
    obtain ⟨-, hcheck⟩ := configCode_eq_ok hok
    have hn : n < 6 := by
      simp only [Bool.and_eq_true, decide_eq_true_eq] at hcheck
      omega
    rw [← Reg.offset_accel ⟨n, hn⟩]
    refine read_of_accepted_packed (i := .wrAccel ax n sp r) rfl (.accel ⟨n, hn⟩) rfl hexec hresp rfl ?_
    rw [accelWord_toNat, State.written_axis]
    exact congrArg (fun e : AccelEntry => 65536 * e.repeats.toNat + e.speed.toNat) (hentry n sp r hn)
  case minspeed =>
    rintro sp r rfl
    refine read_of_accepted (i := .wrAccel ax 0 sp r) rfl .minspeed rfl hexec hresp ?_
    rw [State.readReg, State.written_axis]
    exact congrArg (fun e : AccelEntry => e.speed.setWidth 32) (hentry 0 sp r (by decide))
  case gcfg =>
    rintro m f h a rfl b
    obtain ⟨-, rfl⟩ := eq_written_of_ok rfl hexec hresp
    refine (State.read_of_reg _ b .gcfg rfl).trans (congrArg some (setWidth_eq_ofNat ?_))
    rw [gcfgWord_toNat, State.written_glob]
    rfl

end Machine
end Sys2Proof

/-! ### The instructions, one by one -/

namespace Sys2Proof.Machine

open Sys2Proof

/-! #### The step and its inputs (20_memory.md R62) -/

theorem step_of_word {s : State} {w : TWord} {rest : List Input} {i : Instr} (hin : s.input = .word w :: rest)
    (hi : decode w = .ok i) : step s = exec i { s with input := rest } := by
  simp only [step, hin, State.deliver_word_ok _ hi]

theorem decode_of_decodeTableWord {nbits w : Nat} {i : Instr} (h : decodeTableWord nbits w = some i) :
    decode (wordOfBits nbits w) = .ok i := by
  unfold decodeTableWord at h
  split at h
  next j hj => rw [hj, Option.some.inj h]
  next => cases h

/-- Settles O6. -/
theorem stepRunsDecoded : Obligations.StepRunsDecoded :=
  ⟨fun _ _ _ _ hin hi => step_of_word hin hi, fun s nbits w _ hi =>
    step_of_word (s.withFetchWord_input nbits w) (decode_of_decodeTableWord hi)⟩

/-- Settles O7. -/
theorem idleAndResetInput : Obligations.IdleAndResetInput := by
  refine ⟨fun s hin => ?_, fun s cfg rest hin hvalid => ⟨_, step_reset_valid hin hvalid, rfl, rfl⟩⟩
  simp only [step, hin]

/-! #### The end of a write transaction -/

section End

variable {s : State} {i : Instr}

theorem exists_wrote_of_ok (hw : i.writesErr = true) (hok : s.endCode i = .ok) (hglob : i.writtenGlob s.glob = s.glob) :
    ∃ t, exec i s = .next t ∧
      State.Wrote s t i.axis { i.writtenAxis s.glob (s.axis i.axis) with err := 0 } .ok := by
  refine ⟨s.written i, by rw [exec_of_writesErr s i hw, if_pos hok], ?_⟩
  exact
    { axis := s.written_axis i
      other := s.written_other i
      glob := by rw [State.written_glob, hglob]
      input := s.written_input i
      response := s.written_response i }

theorem exists_wrote_of_refused {c : Code} (hw : i.writesErr = true) (hcode : s.endCode i = c) (hc : c ≠ .ok) :
    ∃ t, exec i s = .next t ∧ State.Wrote s t i.axis { s.axis i.axis with err := c.bits } c := by
  refine ⟨s.finish i.axis c, ?_, s.wrote_finish i.axis c⟩
  rw [exec_of_writesErr s i hw, hcode, if_neg hc]

theorem configCode_of_stopped (hra : s.ra.stopped = true) (hdc : s.dc.stopped = true) (check : Bool) :
    configCode s.bothStopped check = if check then .ok else .range := by
  have hboth : s.bothStopped = true := by rw [State.bothStopped, hra, hdc, Bool.and_self]
  rw [hboth]
  rfl

end End

/-! #### The start operations (43_motor_control.md R155 to R158, R162) -/

theorem AxisState.dirConsistent_iff (a : AxisState) :
    a.dirConsistent = true ↔ (a.stepDir.toInt < 0 ↔ a.dir = true) := by
  rw [AxisState.dirConsistent, beq_iff_eq, Bool.eq_iff_iff, BitVec.slt_iff_toInt_lt]
  rfl

/-- Settles O29: the check of R162 passes, and each accepts its writes. -/
theorem startAndSlew : Obligations.StartAndSlew := by
  intro s ax hdir
  have hok : (if (s.axis ax).dirConsistent then Code.ok else .inconsistent) = .ok :=
    if_pos ((s.axis ax).dirConsistent_iff.mpr hdir)
  exact ⟨exists_wrote_of_ok (i := .start ax) rfl hok rfl, exists_wrote_of_ok (i := .slew ax) rfl hok rfl⟩

/-- Settles O32: GOTO looks at `stopped` first, and all three at the direction. -/
theorem startRefusals : Obligations.StartRefusals := by
  intro s ax
  refine ⟨fun hdir => ?_, fun hrunning => ?_⟩
  · have hcheck : ¬(s.axis ax).dirConsistent = true := mt (s.axis ax).dirConsistent_iff.mp hdir
    refine ⟨exists_wrote_of_refused (i := .start ax) rfl (if_neg hcheck) nofun,
      exists_wrote_of_refused (i := .slew ax) rfl (if_neg hcheck) nofun, fun hstopped => ?_⟩
    exact exists_wrote_of_refused (i := .goto ax) rfl ((if_pos hstopped).trans (if_neg hcheck)) nofun
  · have hcheck : ¬(s.axis ax).stopped = true := by simp [hrunning]
    exact exists_wrote_of_refused (i := .goto ax) rfl (if_neg hcheck) nofun

/-- Settles O33: STOP is accepted under no condition, with the target that the aim past the threshold gives. -/
theorem stop : Obligations.Stop := by
  intro s ax
  obtain ⟨v, n, haim, hpos, hfits⟩ :=
    AxisState.aimPastStop_cases { s.axis ax with gotoRunning := false, gotoEn := false, GVal := 1 }
  obtain ⟨t, ht, hwrote⟩ := exists_wrote_of_ok (s := s) (i := .stop ax) rfl rfl rfl
  refine ⟨t, v, n, ht, ?_, hpos, hfits⟩
  simp only [Instr.writtenAxis, haim, Instr.axis] at hwrote
  exact hwrote

theorem and_mask_eq_shift (x : BitVec 24) : x &&& (0xFFFFF8 : BitVec 24) = x >>> 3 <<< 3 := by
  have hmask : ∀ i : Fin 24, (0xFFFFF8 : BitVec 24).getLsbD i.val = !decide (i.val < 3) := by decide
  apply BitVec.eq_of_getLsbD_eq
  intro i hi
  rw [BitVec.getLsbD_and, BitVec.getLsbD_shiftLeft, BitVec.getLsbD_ushiftRight, hmask ⟨i, hi⟩]
  by_cases hlow : i < 3
  · simp [hlow]
  · simp [hlow, hi, show 3 + (i - 3) = i by omega]

/-- GOTO masks the low three bits of the distance in high-speed mode (R157). -/
theorem AxisState.gotoDistance_toNat (a : AxisState) :
    a.gotoDistance.toNat = if a.highSpeedMode then a.HVal.toNat / 8 * 8 else a.HVal.toNat := by
  have hlt := a.HVal.isLt
  unfold AxisState.gotoDistance
  split
  · rw [and_mask_eq_shift, BitVec.toNat_shiftLeft, BitVec.toNat_ushiftRight, Nat.shiftRight_eq_div_pow,
      Nat.shiftLeft_eq]
    omega
  · rfl

/-- The deceleration length is clamped to half the distance, so the trigger never lies behind the start (R157, R158). -/
theorem AxisState.gotoDecel_le (a : AxisState) : a.gotoDecel ≤ a.gotoDistance.toNat :=
  calc a.gotoDecel ≤ a.gotoDistance.toNat / 2 / a.mag * a.mag := Nat.min_le_right _ _
    _ ≤ a.gotoDistance.toNat / 2 := Nat.div_mul_le_self _ _
    _ ≤ a.gotoDistance.toNat := Nat.div_le_self _ _

theorem AxisState.gotoTargetNew_eq (a : AxisState) :
    a.gotoTargetNew = BitVec.ofInt 24
      (a.jVal.toNat + (if a.dir then -1 else 1) * (a.gotoDistance.toNat - a.gotoDecel)) := by
  have hrest : BitVec.ofInt 24 (a.gotoDistance.toNat - a.gotoDecel) =
      BitVec.ofNat 24 (a.gotoDistance.toNat - a.gotoDecel) := by
    rw [← Nat.cast_sub a.gotoDecel_le, BitVec.ofInt_natCast]
  have hstart : BitVec.ofInt 24 a.jVal.toNat = a.jVal := by
    rw [BitVec.ofInt_natCast, BitVec.ofNat_toNat, BitVec.setWidth_eq]
  unfold AxisState.gotoTargetNew
  cases a.dir
  · simp only [Bool.false_eq_true, if_false, one_mul, BitVec.ofInt_add, hstart, hrest]
  · simp only [if_true, neg_one_mul, BitVec.ofInt_add, BitVec.ofInt_neg, hstart, hrest, BitVec.sub_eq_add_neg]

/-- Settles O30: the check passes; the plan of the model is the plan of the statement, number by number. -/
theorem goto : Obligations.Goto := by
  intro s ax a mag hv dl sgn hstopped hdir
  have hdist : a.gotoDistance.toNat = hv := a.gotoDistance_toNat
  have hdecel : a.gotoDecel = dl := by rw [AxisState.gotoDecel, hdist]; rfl
  have hok : s.endCode (.goto ax) = .ok := (if_pos hstopped).trans (if_pos (a.dirConsistent_iff.mpr hdir))
  obtain ⟨t, ht, hwrote⟩ := exists_wrote_of_ok (i := .goto ax) rfl hok rfl
  refine ⟨t, ht, ?_⟩
  have htarget : a.gotoTargetNew = BitVec.ofInt 24 (a.jVal.toNat + sgn * (hv - dl)) := by
    rw [AxisState.gotoTargetNew_eq, hdist, hdecel]
  rw [← htarget, ← hdecel, BitVec.ofNat_toNat]
  exact hwrote

/-! #### The deceleration length (41_accel_profile.md R114 to R116) -/

/-- The cruise index is the first entry as fast as the given period, or 5 (R115). -/
theorem AxisState.cruiseIndex_spec (a : AxisState) (g : BitVec 16) :
    (a.accel[(a.cruiseIndex g).val].speed.toNat ≤ g.toNat ∨ a.cruiseIndex g = 5) ∧
    ∀ i : Fin 6, i < a.cruiseIndex g → g.toNat < a.accel[i.val].speed.toNat := by
  unfold AxisState.cruiseIndex
  simp only [BitVec.le_def]
  split_ifs with h0 h1 h2 h3 h4
  · exact ⟨.inl h0, fun i hi => by omega⟩
  · exact ⟨.inl h1, fun i hi => by fin_cases i <;> simp_all⟩
  · exact ⟨.inl h2, fun i hi => by fin_cases i <;> simp_all⟩
  · exact ⟨.inl h3, fun i hi => by fin_cases i <;> simp_all⟩
  · exact ⟨.inl h4, fun i hi => by fin_cases i <;> simp_all⟩
  · exact ⟨.inr rfl, fun i hi => by fin_cases i <;> simp_all⟩

theorem vector_toList_eq {α : Type} (v : Vector α 6) : v.toList = [v[0], v[1], v[2], v[3], v[4], v[5]] :=
  List.ext_getElem (by simp) fun n h _ => by
    have hn : n < 6 := by simpa using h
    interval_cases n <;> simp

theorem AxisState.dwellSum_eq (a : AxisState) (k : Fin 6) :
    a.dwellSum k = ∑ i : Fin 6 with i < k, (a.accel[i.val].repeats.toNat + 1) := by
  rw [AxisState.dwellSum, vector_toList_eq, Finset.sum_filter, Fin.sum_univ_six]
  fin_cases k <;> simp [add_assoc]

/-- One step, and `Rep(s, i) + 1` steps for each entry below the cruise index: in high-speed mode each entry dwells
three times as long (R114, R116). -/
theorem AxisState.decelSteps_eq (a : AxisState) :
    a.decelSteps = 1 + ∑ i : Fin 6 with i < a.cruiseIndex (a.normalGotoSpeed.setWidth 16), ((a.rep i).toNat + 1) := by
  rw [AxisState.decelSteps, AxisState.dwellSum_eq, Finset.mul_sum]
  congr 1
  refine Finset.sum_congr rfl fun i _ => ?_
  rw [AxisState.rep_toNat]
  split <;> ring

/-- Settles O31. -/
theorem decelSteps : Obligations.DecelSteps := by
  intro a g k
  obtain ⟨hfast, hslow⟩ := a.cruiseIndex_spec g
  exact ⟨hfast, hslow, a.decelSteps_eq, a.rep_toNat⟩

/-! #### RD (44_register_access.md R180) -/

theorem Reg.offset_rate (i : Fin 32) : (Reg.rate (BitVec.ofFin i)).offset = BitVec.ofNat 7 (0x20 + i.val) := by
  revert i
  decide

/-- Settles O36: each register reads its one field, zero-extended. -/
theorem rdPlain : Obligations.RdPlain := by
  intro s ax
  refine ⟨?err, ?jval, ?target, ?curspeed, ?stopspeed, ?minspeed, ?gototarget, ?hval, ?timertop, ?gotospeed, ?sidereal,
    ?bval, ?axcfg, ?decellen, ?rate⟩
  case err => exact exec_rd_zeroExtended s ax .err rfl rfl rfl
  case jval => exact exec_rd_zeroExtended s ax .jval rfl rfl rfl
  case target => exact exec_rd_zeroExtended s ax .target rfl rfl rfl
  case curspeed => exact exec_rd_zeroExtended s ax .curspeed rfl rfl rfl
  case stopspeed => exact exec_rd_zeroExtended s ax .stopspeed rfl rfl rfl
  case minspeed => exact exec_rd_zeroExtended s ax .minspeed rfl rfl rfl
  case gototarget => exact exec_rd_zeroExtended s ax .gototarget rfl rfl rfl
  case hval => exact exec_rd_zeroExtended s ax .hval rfl rfl rfl
  case timertop => exact exec_rd_zeroExtended s ax .timertop rfl rfl rfl
  case gotospeed => exact exec_rd_zeroExtended s ax .gotospeed rfl rfl rfl
  case sidereal => exact exec_rd_zeroExtended s ax .sidereal rfl rfl rfl
  case bval => exact exec_rd_zeroExtended s ax .bval rfl rfl rfl
  case axcfg => exact exec_rd_zeroExtended s ax .axcfg rfl rfl (BitVec.toNat_ofBool _)
  case decellen => exact exec_rd_zeroExtended s ax .decellen rfl rfl rfl
  case rate =>
    intro i
    rw [← Reg.offset_rate i]
    exact exec_rd_zeroExtended s ax (.rate (BitVec.ofFin i)) rfl rfl rfl

/-- The offsets without a readable register (R72, R180). -/
theorem Reg.readable_ofOffset_eq_false : ∀ off : BitVec 7,
    (off.toNat = 0 ∨ (0x15 ≤ off.toNat ∧ off.toNat ≤ 0x1F) ∨ (0x46 ≤ off.toNat ∧ off.toNat ≤ 0x6F) ∨
      0x71 ≤ off.toNat) → (Reg.ofOffset off).any Reg.readable = false := by
  decide

theorem State.read_eq_none (s : State) (ax : Axis) {off : BitVec 7}
    (h : (Reg.ofOffset off).any Reg.readable = false) : s.read ax off = none := by
  unfold State.read
  cases hreg : Reg.ofOffset off with
  | none => rfl
  | some r =>
    rw [hreg] at h
    exact if_neg (by simpa using h)

/-- Settles O38. -/
theorem rdIllegal : Obligations.RdIllegal := by
  intro s ax off hoff
  rw [exec_rd, s.read_eq_none ax (Reg.readable_ofOffset_eq_false off hoff)]
  rfl

theorem setWidth_toNat_lt {w : Nat} (h : w ≤ 32) (x : BitVec w) : (x.setWidth 32).toNat < 2 ^ w := by
  rw [BitVec.toNat_setWidth_of_le h]
  exact x.isLt

/-- Settles O39: but for STEPDIR, ACCELPOS and SEQPOS, which fill the word, a register is a field zero-extended. -/
theorem readWidth : Obligations.ReadWidth := by
  intro s ax r
  cases r with
  | cmd => exact Nat.two_pow_pos 32
  | stepdir | accelpos | seqpos => exact (State.readReg _ _ _).isLt
  | _ => exact setWidth_toNat_lt (by decide) _

/-! #### WR (44_register_access.md R181 to R191) -/

theorem speedLegal_eq_false {v : BitVec 16} (h : v = 0 ∨ v = 0xFFFF) : speedLegal v = false := by
  obtain rfl | rfl := h <;> rfl

/-- Settles O40: the motion registers have no gate, and only TARGET a check. -/
theorem wrMotion : Obligations.WrMotion := by
  intro s ax
  refine ⟨fun v => ?_, fun v => ?_, fun g d e => ?_, fun v hlow hhigh => ?_, fun v hbound => ?_⟩
  · exact exists_wrote_of_ok (i := .wrJval ax v) rfl rfl rfl
  · exact exists_wrote_of_ok (i := .wrHval ax v) rfl rfl rfl
  · exact exists_wrote_of_ok (i := .wrMode ax g d e) rfl rfl rfl
  · exact exists_wrote_of_ok (i := .wrTarget ax v) rfl (if_pos ((speedLegal_iff v).mpr ⟨hlow, hhigh⟩)) rfl
  · exact exists_wrote_of_refused (i := .wrTarget ax v) rfl (if_neg (by simp [speedLegal_eq_false hbound])) nofun

/-- Settles O41: with both axes stopped each write is gated by its own check alone. -/
theorem wrConfig : Obligations.WrConfig := by
  intro s ax hra hdc
  have hgate : ∀ check : Bool, check = true → configCode s.bothStopped check = .ok := fun check h => by
    rw [configCode_of_stopped hra hdc, if_pos h]
  refine ⟨fun v hv => ?_, fun v hlow hhigh => ?_, fun b hb => ?_, fun r => ?_, fun i sp r hlow hhigh => ?_⟩
  · exact exists_wrote_of_ok (i := .wrGotospeed ax v) rfl (hgate _ ((gotoSpeedLegal_iff v).mpr hv)) rfl
  · exact exists_wrote_of_ok (i := .wrSidereal ax v) rfl (hgate _ ((siderealLegal_iff _ v).mpr ⟨hlow, hhigh⟩)) rfl
  · exact exists_wrote_of_ok (i := .wrBval ax b) rfl (hgate _ ((bValLegal_iff b).mpr hb)) rfl
  · exact exists_wrote_of_ok (i := .wrAxcfg ax r) rfl (hgate _ rfl) rfl
  · have hcheck : (decide (i.val ≤ 5) && speedLegal sp) = true := by
      rw [(speedLegal_iff sp).mpr ⟨hlow, hhigh⟩, decide_eq_true (Nat.le_of_lt_succ i.isLt), Bool.and_self]
    have hset : (s.axis ax).accel.set i.val ⟨sp, r⟩ = (s.axis ax).accel.setIfInBounds i.val ⟨sp, r⟩ := by
      ext j hj
      rw [Vector.getElem_set, Vector.getElem_setIfInBounds]
    rw [hset]
    exact exists_wrote_of_ok (i := .wrAccel ax i.val sp r) rfl (hgate _ hcheck) rfl

/-- Settles O42: WR.GCFG writes the global configuration and, of the axes, only `err` of its own. -/
theorem wrGcfg : Obligations.WrGcfg := by
  intro s ax m f h a hra hdc hm hf hlimit
  have hok : s.endCode (.wrGcfg ax m f h a) = .ok :=
    (configCode_of_stopped hra hdc _).trans (if_pos ((gcfgLegal_iff Config.params m f).mpr ⟨hm, hf, hlimit⟩))
  refine ⟨s.written (.wrGcfg ax m f h a), ?_, s.written_glob _, s.written_axis (.wrGcfg ax m f h a),
    s.written_other (.wrGcfg ax m f h a), s.written_input _, rfl⟩
  rw [exec_of_writesErr s _ rfl, if_pos hok]

/-- Settles O43: with both axes stopped a failed check is RANGE. -/
theorem wrConfigRange : Obligations.WrConfigRange := by
  intro s ax i hra hdc hwrite
  have hgate : ∀ check : Bool, ¬check = true → configCode s.bothStopped check = .range := fun check h => by
    rw [configCode_of_stopped hra hdc, if_neg h]
  obtain rfl | ⟨v, hv, rfl⟩ | rfl | ⟨n, sp, r, hbad, rfl⟩ | ⟨m, f, h, a, hbad, rfl⟩ := hwrite
  · exact exists_wrote_of_refused (i := .wrGotospeed ax 0) rfl (hgate _ (by decide)) nofun
  · have hcheck : ¬siderealLegal Config.params v = true := by
      rw [siderealLegal_iff]
      omega
    exact exists_wrote_of_refused (i := .wrSidereal ax v) rfl (hgate _ hcheck) nofun
  · exact exists_wrote_of_refused (i := .wrBval ax 0) rfl (hgate _ (by decide)) nofun
  · have hcheck : ¬(decide (n ≤ 5) && speedLegal sp) = true := by
      obtain hn | hsp := hbad
      · simp [Nat.not_le.mpr hn]
      · simp [speedLegal_eq_false hsp]
    exact exists_wrote_of_refused (i := .wrAccel ax n sp r) rfl (hgate _ hcheck) nofun
  · have hcheck : ¬gcfgLegal Config.params m f = true := by
      rw [gcfgLegal_iff]
      rintro ⟨hm, hf, hlimit⟩
      obtain hm' | ⟨hne, hnot⟩ | ⟨heq, hbig⟩ := hbad
      · exact hm' hm
      · exact hf.elim hne hnot
      · exact absurd (hlimit heq) (Nat.not_le.mpr hbig)
    exact exists_wrote_of_refused (i := .wrGcfg ax m f h a) rfl (hgate _ hcheck) nofun

end Sys2Proof.Machine

/-! ### Legal states (10_state.md R56, 70_reset_and_hazards.md R260) -/

namespace Sys2Proof.Machine

open Sys2Proof

/-! #### The rate table's bounds (40_rate_table.md R101 to R104) -/

/-- A slot is the whole part of the ideal period, or one more. -/
theorem rateSlot_eq (T i : Nat) : rateSlot T i = T / 32 ∨ rateSlot T i = T / 32 + 1 := by
  simp only [rateSlot, ceilDiv, Nat.succ_mul]
  omega

theorem rateTable_bounds (T i : Nat) (h : i < 32) :
    128 ≤ (rateTable T)[i].toNat ∧ (rateTable T)[i].toNat ≤ 65535 := by
  refine ⟨?_, Nat.le_of_lt_succ (rateTable T)[i].isLt⟩
  rw [rateTable_getElem_toNat T i h]
  have hslot := rateSlot_eq T i
  split_ifs with hhigh hlow
  · decide
  · decide
  · omega

theorem buildRate_ge (b : BitVec 24) (i : Nat) (h : i < 32) : 128 ≤ (buildRate b)[i].toNat :=
  (rateTable_bounds _ i h).1

/-! #### An axis after reset and after a write -/

theorem AxisState.resetWith_legal {c : AxisConfig} (n : Nat) (hb : 1 ≤ c.bVal.toNat)
    (hs : 1 ≤ c.siderealIVal.toNat ∧ c.siderealIVal.toNat ≤ 1200) (hg : 1 ≤ c.normalGotoSpeed.toNat)
    (ha : ∀ i : Fin 6, 1 ≤ c.accel[i.val].speed.toNat ∧ c.accel[i.val].speed.toNat ≤ 0xFFFE) :
    (AxisState.resetWith c n).Legal where
  timer := rfl
  stepDir := .inl rfl
  modeSel := rfl
  enable := rfl
  stopSpeed := hs.1
  targetSpeed := hs.1
  currentSpeed := hs.1
  irqToNext := Nat.le_refl 1
  dwell := Nat.zero_le _
  accelSpeeds := ha
  rate := rfl
  bVal := bne_iff_ne.mp ((bValLegal_iff _).mpr hb)
  timerTop := buildRate_ge c.bVal 0 (by decide)
  gotoSpeed := bne_iff_ne.mp ((gotoSpeedLegal_iff _).mpr hg)
  sidereal := hs
  err := Nat.zero_le _
  decelLength := Nat.zero_le _
  gotoRuns := nofun
  dirPin := nofun

/-- Settles O12. -/
theorem validResetIsLegal : Obligations.ValidResetIsLegal := by
  intro cfg m n input hvalid
  have hmin := Config.params_minIval
  have haxis : ∀ (ax : Axis) (n : Nat), (AxisState.resetWith (cfg.axis ax) n).Legal := fun ax n => by
    obtain ⟨hlow, hhigh⟩ := hvalid.sidereal ax
    exact AxisState.resetWith_legal n (hvalid.bVal ax) ⟨hmin.1.trans hlow, hhigh⟩ (hvalid.gotoSpeed ax)
      (hvalid.accel ax)
  have hglob : gcfgLegal Config.params cfg.glob.microsteps cfg.glob.driverFamily = true :=
    (gcfgLegal_iff _ _ _).mpr ⟨hvalid.microsteps, hvalid.family, hvalid.limit498X⟩
  exact ⟨⟨haxis .ra m, haxis .dc n, (microstepsLegal_iff _).mpr hvalid.microsteps⟩,
    ⟨(siderealLegal_iff _ _).mpr (hvalid.sidereal .ra), (siderealLegal_iff _ _).mpr (hvalid.sidereal .dc), hglob⟩⟩

/-- Settles O11. -/
theorem resetIsLegal : Obligations.ResetIsLegal := by
  have haxis : ∀ n, (AxisState.resetWith Config.bootAxis n).Legal := fun n =>
    AxisState.resetWith_legal n (by decide) (by decide) (by decide) (by decide)
  exact ⟨haxis 0, haxis 1, by decide⟩

theorem Code.bits_le (c : Code) : c.bits.toNat ≤ 5 := by
  cases c <;> decide

section Axis

variable {a : AxisState}

theorem AxisState.Legal.withErr (h : a.Legal) (c : Code) : { a with err := c.bits }.Legal :=
  { h with err := c.bits_le }

/-! #### The step engine keeps an axis legal -/

theorem AxisState.Legal.slotAdvance (h : a.Legal) : a.slotAdvance.Legal :=
  { h with
    irqToNext := h.currentSpeed
    timerTop := by
      rw [AxisState.slotAdvance_timerTop, getElem_congr_coll h.rate]
      exact buildRate_ge _ _ _ }

theorem AxisState.Legal.aimPastStop (h : a.Legal) : a.aimPastStop.Legal := by
  obtain ⟨v, n, haim, hpos, -⟩ := a.aimPastStop_cases
  rw [haim]
  exact { h with targetSpeed := hpos }

theorem AxisState.Legal.trigger (h : a.Legal) : a.trigger.Legal := by
  obtain ⟨-, -, -, htrig⟩ | ⟨-, htrig⟩ := a.trigger_cases
  · rw [htrig]
    exact AxisState.Legal.aimPastStop { h with }
  · rwa [htrig]

theorem AxisState.Legal.stopCheck (h : a.Legal) : a.stopCheck.Legal := by
  obtain ⟨-, hstop⟩ | ⟨-, hstop⟩ := a.stopCheck_cases
  · rw [hstop]
    exact { h with timer := rfl, gotoRuns := nofun, dirPin := nofun }
  · rwa [hstop]

theorem AxisState.Legal.fall (h : a.Legal) : a.fall.Legal :=
  AxisState.Legal.stopCheck (AxisState.Legal.trigger { h with })

/-- The walk takes its speed from the target or from the table, and its dwell from `Rep`. -/
theorem AxisState.Legal.walk (h : a.Legal) : a.walk.Legal := by
  obtain ⟨-, hwalk⟩ | ⟨-, hwalk⟩ | ⟨-, hwalk⟩ := a.walk_cases
  · obtain ⟨-, hacc⟩ | ⟨-, -, hacc⟩ | ⟨-, -, hacc⟩ := a.accelerate_cases
    · rw [hwalk, hacc]
      exact { h with currentSpeed := h.targetSpeed }
    · rw [hwalk, hacc]
      exact { h with currentSpeed := h.targetSpeed }
    · rw [hwalk, hacc]
      exact { h with currentSpeed := (h.accelSpeeds _).1, dwell := a.rep_le _ }
  · obtain ⟨-, hdec⟩ | ⟨-, -, hdec⟩ | ⟨-, -, hdec⟩ := a.decelerate_cases
    · rw [hwalk, hdec]
      exact { h with currentSpeed := h.targetSpeed }
    · rw [hwalk, hdec]
      exact { h with currentSpeed := h.targetSpeed }
    · rw [hwalk, hdec]
      exact { h with currentSpeed := (h.accelSpeeds _).1, dwell := a.rep_le _ }
  · rwa [hwalk]

theorem AxisState.Legal.rise (h : a.Legal) : a.rise.Legal := by
  obtain ⟨hleft, hrise⟩ | ⟨-, hrise⟩ := a.rise_cases
  · rw [hrise]
    have hdwell := h.dwell
    exact { h with dwell := by show (a.accelRepeatsLeft - 1).toNat ≤ 767; bv_omega }
  · rw [hrise]
    exact AxisState.Legal.walk { h with }

theorem AxisState.Legal.tick (h : a.Legal) : a.tick.Legal := by
  obtain ⟨-, htick⟩ | ⟨-, hne, htick⟩ | ⟨-, -, -, htick⟩ | ⟨-, -, -, htick⟩ := a.tick_cases
  · rwa [htick]
  · rw [htick]
    have hirq := h.irqToNext
    exact { h with irqToNext := by show 1 ≤ (a.irqToNext - 1).toNat; bv_omega }
  · rw [htick]
    exact h.slotAdvance.fall
  · rw [htick]
    exact h.slotAdvance.rise

/-! #### Motor control keeps an axis legal -/

theorem AxisState.Legal.startStop_pos (h : a.Legal) : 1 ≤ a.startStop.toNat := by
  have htarget := h.targetSpeed
  rw [AxisState.startStop_toNat]
  omega

theorem AxisState.Legal.startSpeed_pos (h : a.Legal) : 1 ≤ a.startSpeed.toNat := by
  unfold AxisState.startSpeed
  split_ifs
  · exact h.startStop_pos
  · exact h.currentSpeed
  · exact h.startStop_pos

theorem AxisState.Legal.startCommon (h : a.Legal) (hdir : a.dirConsistent = true) : a.startCommon.Legal :=
  { h with
    stopSpeed := h.startStop_pos
    currentSpeed := h.startSpeed_pos
    dirPin := fun _ => by
      show (a.dir ^^ a.reverse) = (a.stepDir.slt 0 ^^ a.reverse)
      rw [beq_iff_eq.mp hdir] }

theorem AxisState.Legal.startFresh (h : a.Legal) (hpin : a.dirPin = (a.stepDir.slt 0 ^^ a.reverse)) :
    a.startFresh.Legal :=
  { h with
    timer := rfl
    irqToNext := Nat.le_refl 1
    dwell := a.rep_le 0
    timerTop := by
      rw [AxisState.startFresh_timerTop, getElem_congr_coll h.rate]
      exact buildRate_ge _ _ _
    gotoRuns := fun _ => rfl
    dirPin := fun _ => hpin }

theorem AxisState.Legal.startMotion (h : a.Legal) (hdir : a.dirConsistent = true) : a.startMotion.Legal := by
  obtain ⟨-, hstart⟩ | ⟨-, hstart⟩ := a.startMotion_cases
  · rw [hstart]
    refine (h.startCommon hdir).startFresh ?_
    show (a.dir ^^ a.reverse) = (a.stepDir.slt 0 ^^ a.reverse)
    rw [beq_iff_eq.mp hdir]
  · rw [hstart]
    exact h.startCommon hdir

theorem AxisState.Legal.slew (h : a.Legal) (hdir : a.dirConsistent = true) : a.slew.Legal :=
  AxisState.Legal.startMotion { h with gotoRuns := nofun } hdir

theorem AxisState.Legal.mag_eq (h : a.Legal) : a.mag = if a.highSpeedMode then 8 else 1 := by
  have hstep := h.stepDir
  unfold AxisState.mag
  split_ifs at hstep ⊢
  · obtain heq | heq := hstep <;> rw [heq] <;> rfl
  · obtain heq | heq := hstep <;> rw [heq] <;> rfl

theorem AxisState.dwellSum_le (k : Fin 6) : a.dwellSum k ≤ 1280 := by
  have hentry : ∀ i : Fin 6, a.accel[i.val].repeats.toNat + 1 ≤ 256 := fun i => a.accel[i.val].repeats.isLt
  have hcard : (Finset.univ.filter fun i : Fin 6 => i < k).card ≤ 5 := by
    revert k
    decide
  calc a.dwellSum k = ∑ i : Fin 6 with i < k, (a.accel[i.val].repeats.toNat + 1) := a.dwellSum_eq k
    _ ≤ (Finset.univ.filter fun i : Fin 6 => i < k).card * 256 :=
      Finset.sum_le_card_nsmul _ _ 256 fun i _ => hentry i
    _ ≤ 1280 := Nat.mul_le_mul_right 256 hcard

/-- "The maximum is ... 30728" (R116). -/
theorem AxisState.Legal.gotoDecel_le_max (h : a.Legal) : a.gotoDecel ≤ 30728 := by
  have hsum := a.dwellSum_le (a.cruiseIndex (a.normalGotoSpeed.setWidth 16))
  have hfull : a.gotoDecel ≤ a.mag * a.decelSteps := Nat.min_le_left _ _
  rw [h.mag_eq, AxisState.decelSteps] at hfull
  split_ifs at hfull <;> omega

/-- The start procedure does not look at the goto's flags. -/
theorem AxisState.goto_eq (a : AxisState) :
    a.goto =
      { { a with targetSpeed := a.normalGotoSpeed.setWidth 16 }.startMotion with
        gotoTarget := a.gotoTargetNew
        decelLength := BitVec.ofNat 24 a.gotoDecel
        gotoDecelerating := false
        gotoRunning := true } := by
  unfold AxisState.goto AxisState.startMotion
  cases a.stopped <;> rfl

theorem AxisState.Legal.goto (h : a.Legal) (hdir : a.dirConsistent = true) : a.goto.Legal := by
  have htarget : 1 ≤ (a.normalGotoSpeed.setWidth 16).toNat := by
    rw [BitVec.toNat_setWidth_of_le (by decide)]
    exact (gotoSpeedLegal_iff _).mp (bne_iff_ne.mpr h.gotoSpeed)
  have hstart : { a with targetSpeed := a.normalGotoSpeed.setWidth 16 }.startMotion.Legal :=
    AxisState.Legal.startMotion { h with targetSpeed := htarget } hdir
  rw [AxisState.goto_eq]
  exact
    { hstart with
      decelLength := (Nat.mod_le _ _).trans h.gotoDecel_le_max
      gotoRuns := fun _ => AxisState.startMotion_stopped _ }

theorem AxisState.Legal.configure (h : a.Legal) (hstopped : a.stopped = true) (g : GlobalConfig) :
    (a.configure g).Legal :=
  { h with
    stepDir := by
      show if a.wantsHighSpeed g then _ else _
      simp only [AxisState.configure]
      cases a.wantsHighSpeed g <;> cases a.dir <;> simp
    modeSel := rfl
    dirPin := fun hrunning => absurd (hstopped.symm.trans hrunning) (by decide) }

end Axis

theorem eq_true_of_ite_code {b : Bool} {c : Code} (h : (if b then .ok else c) = Code.ok) (hc : c ≠ .ok) : b = true := by
  cases b
  · exact absurd h hc
  · rfl

theorem goto_endCode_eq_ok {both : Bool} {a : AxisState} {ax : Axis} (h : Instr.endCode both a (.goto ax) = .ok) :
    a.stopped = true ∧ a.dirConsistent = true := by
  simp only [Instr.endCode] at h
  split_ifs at h with hstopped hdir
  exact ⟨hstopped, hdir⟩

/-- An accepted write transaction keeps its axis legal. -/
theorem Instr.writtenAxis_legal {i : Instr} {both : Bool} {a : AxisState} (g : GlobalConfig) (h : a.Legal)
    (hboth : both = true → a.stopped = true) (hok : i.endCode both a = .ok) : (i.writtenAxis g a).Legal := by
  cases i with
  | rd | tick | wrGcfg => exact h
  | enable | disable => exact { h with enable := rfl }
  | estop => exact { h with timer := rfl, gotoRuns := nofun, dirPin := nofun }
  | stop => exact AxisState.Legal.aimPastStop { h with gotoRuns := nofun }
  | wrJval | wrHval | wrMode => exact { h with }
  | configure => exact h.configure (eq_true_of_ite_code hok nofun) g
  | slew => exact h.slew (eq_true_of_ite_code hok nofun)
  | start => exact h.startMotion (eq_true_of_ite_code hok nofun)
  | goto => exact h.goto (goto_endCode_eq_ok hok).2
  | retarget ax v =>
    obtain ⟨hlow, -⟩ := (speedLegal_iff v).mp (eq_true_of_ite_code hok nofun)
    have hstop : 1 ≤ (if a.stopSpeed ≤ v then v else a.stopSpeed).toNat := by
      split_ifs
      · exact hlow
      · exact h.stopSpeed
    exact { h with targetSpeed := hlow, stopSpeed := hstop }
  | wrTarget ax v =>
    obtain ⟨hlow, -⟩ := (speedLegal_iff v).mp (eq_true_of_ite_code hok nofun)
    exact { h with targetSpeed := hlow }
  | wrGotospeed ax v =>
    obtain ⟨-, hcheck⟩ := configCode_eq_ok hok
    exact { h with gotoSpeed := bne_iff_ne.mp hcheck }
  | wrSidereal ax v =>
    obtain ⟨-, hcheck⟩ := configCode_eq_ok hok
    obtain ⟨hlow, hhigh⟩ := (siderealLegal_iff _ v).mp hcheck
    exact { h with sidereal := ⟨Config.params_minIval.1.trans hlow, hhigh⟩ }
  | wrBval ax b =>
    obtain ⟨-, hcheck⟩ := configCode_eq_ok hok
    exact { h with rate := rfl, bVal := bne_iff_ne.mp hcheck }
  | wrAxcfg ax r =>
    obtain ⟨hstopped, -⟩ := configCode_eq_ok hok
    exact { h with dirPin := fun hrunning => absurd ((hboth hstopped).symm.trans hrunning) (by decide) }
  | wrAccel ax n sp r =>
    obtain ⟨-, hcheck⟩ := configCode_eq_ok hok
    obtain ⟨-, hspeed⟩ := Bool.and_eq_true_iff.mp hcheck
    have hentry : ∀ i : Fin 6, speedLegal (a.accel.setIfInBounds n ⟨sp, r⟩)[i.val].speed = true := fun i => by
      rw [Vector.getElem_setIfInBounds]
      split_ifs
      · exact hspeed
      · exact (speedLegal_iff _).mpr (h.accelSpeeds i)
    exact { h with accelSpeeds := fun i => (speedLegal_iff _).mp (hentry i) }

/-! #### Every step keeps a legal state legal -/

theorem State.legal_iff (s : State) (ax : Axis) :
    s.Legal ↔ (s.axis ax).Legal ∧ (s.axis ax.other).Legal ∧ microstepsLegal s.glob.microsteps = true := by
  cases ax
  · exact ⟨fun h => ⟨h.ra, h.dc, h.microsteps⟩, fun ⟨hra, hdc, hm⟩ => ⟨hra, hdc, hm⟩⟩
  · exact ⟨fun h => ⟨h.dc, h.ra, h.microsteps⟩, fun ⟨hdc, hra, hm⟩ => ⟨hra, hdc, hm⟩⟩

theorem Instr.writtenGlob_eq_or_legal {both : Bool} {a : AxisState} {i : Instr} {g : GlobalConfig}
    (h : i.endCode both a = .ok) :
    i.writtenGlob g = g ∨
      gcfgLegal Config.params (i.writtenGlob g).microsteps (i.writtenGlob g).driverFamily = true := by
  cases i with
  | wrGcfg ax m f hs adv => exact .inr (configCode_eq_ok h).2
  | _ => exact .inl rfl

theorem State.bothStopped_axis {s : State} (h : s.bothStopped = true) (ax : Axis) : (s.axis ax).stopped = true := by
  rw [s.bothStopped_eq ax] at h
  exact (Bool.and_eq_true_iff.mp h).1

theorem exec_keeps_legal {s t : State} {i : Instr} (h : s.Legal) (hexec : exec i s = .next t) : t.Legal := by
  have hdoes := does_of_exec hexec
  obtain ⟨hown, hother, hmicro⟩ := (s.legal_iff i.axis).mp h
  refine (t.legal_iff i.axis).mpr ⟨?_, hdoes.other ▸ hother, ?_⟩
  · obtain haxis | ⟨-, haxis⟩ | ⟨-, haxis⟩ | ⟨hok, haxis⟩ := hdoes.axis
    · rwa [haxis]
    · rw [haxis]
      exact hown.tick
    · rw [haxis]
      exact hown.withErr _
    · rw [haxis]
      exact (Instr.writtenAxis_legal s.glob hown (fun hb => State.bothStopped_axis hb i.axis) hok).withErr .ok
  · obtain hglob | ⟨hok, hglob⟩ := hdoes.glob
    · rwa [hglob]
    · rw [hglob]
      obtain hsame | hlegal := Instr.writtenGlob_eq_or_legal (g := s.glob) hok
      · rwa [hsame]
      · exact (microstepsLegal_iff _).mpr ((gcfgLegal_iff _ _ _).mp hlegal).1

/-- Everything a step can do: idle, run the instruction of a word, reject a reserved word, or reset. -/
theorem step_cases {s t : State} (h : step s = .next t) :
    (s.input = [] ∧ t = s) ∨
    (∃ w rest i, s.input = .word w :: rest ∧ exec i { s with input := rest } = .next t) ∨
    (∃ w rest, s.input = .word w :: rest ∧ t = { s with input := rest }.finish (Axis.ofBit w.axisBit) .illegal) ∨
    (∃ cfg rest, s.input = .reset cfg :: rest ∧ cfg.Valid Config.params ∧
      t = State.resetWith cfg s.ra.freeCount s.dc.freeCount rest) := by
  cases hin : s.input with
  | nil =>
    rw [idleAndResetInput.1 s hin] at h
    exact .inl ⟨rfl, (Host.Outcome.next.inj h).symm⟩
  | cons input rest =>
    cases input with
    | word w =>
      cases hdec : decode w with
      | ok i =>
        rw [step_of_word hin hdec] at h
        exact .inr (.inl ⟨w, rest, i, rfl, h⟩)
      | error e =>
        rw [step_of_decode_error hin hdec] at h
        exact .inr (.inr (.inl ⟨w, rest, rfl, (Host.Outcome.next.inj h).symm⟩))
    | reset cfg =>
      by_cases hvalid : cfg.Valid Config.params
      · rw [step_reset_valid hin hvalid] at h
        exact .inr (.inr (.inr ⟨cfg, rest, rfl, hvalid, (Host.Outcome.next.inj h).symm⟩))
      · rw [step_reset_invalid hin hvalid] at h
        cases h

theorem State.Legal.withInput {s : State} (h : s.Legal) (rest : List Input) : { s with input := rest }.Legal :=
  ⟨h.ra, h.dc, h.microsteps⟩

theorem State.Legal.finish {s : State} (h : s.Legal) (ax : Axis) (c : Code) : (s.finish ax c).Legal := by
  obtain ⟨hown, hother, hmicro⟩ := (s.legal_iff ax).mp h
  refine (State.legal_iff _ ax).mpr ⟨?_, ?_, ?_⟩
  · rw [State.finish_axis]
    exact hown.withErr c
  · rwa [State.finish_other]
  · rwa [State.finish_glob]

/-- Settles O10. -/
theorem stepKeepsLegal : Obligations.StepKeepsLegal := by
  intro s t h hstep
  obtain ⟨-, rfl⟩ | ⟨w, rest, i, -, hexec⟩ | ⟨w, rest, -, rfl⟩ | ⟨cfg, rest, -, hvalid, rfl⟩ := step_cases hstep
  · exact h
  · exact exec_keeps_legal (h.withInput rest) hexec
  · exact (h.withInput rest).finish _ _
  · exact (validResetIsLegal cfg _ _ rest hvalid).1

/-! #### Every step keeps the parameter-dependent configuration legal -/

theorem State.configLegal_iff (p : Params) (s : State) (ax : Axis) :
    s.ConfigLegal p ↔ siderealLegal p (s.axis ax).siderealIVal = true ∧
      siderealLegal p (s.axis ax.other).siderealIVal = true ∧
      gcfgLegal p s.glob.microsteps s.glob.driverFamily = true := by
  cases ax
  · exact ⟨fun h => ⟨h.ra, h.dc, h.glob⟩, fun ⟨hra, hdc, hg⟩ => ⟨hra, hdc, hg⟩⟩
  · exact ⟨fun h => ⟨h.dc, h.ra, h.glob⟩, fun ⟨hdc, hra, hg⟩ => ⟨hra, hdc, hg⟩⟩

/-- Only WR.SIDEREAL writes the sidereal period, and only a legal one (R187). -/
theorem Instr.writtenAxis_siderealIVal {i : Instr} {both : Bool} {a : AxisState} (g : GlobalConfig)
    (hok : i.endCode both a = .ok) :
    (i.writtenAxis g a).siderealIVal = a.siderealIVal ∨
      siderealLegal Config.params (i.writtenAxis g a).siderealIVal = true := by
  cases i with
  | wrSidereal ax v => exact .inr (configCode_eq_ok hok).2
  | slew | goto | start =>
    simp only [Instr.writtenAxis, AxisState.slew, AxisState.goto]
    rw [AxisState.startMotion_eq_update]
    exact .inl rfl
  | stop =>
    simp only [Instr.writtenAxis]
    rw [AxisState.aimPastStop_eq_update]
    exact .inl rfl
  | _ => exact .inl rfl

theorem exec_keeps_configLegal {s t : State} {i : Instr} (h : s.ConfigLegal Config.params)
    (hexec : exec i s = .next t) :
    t.ConfigLegal Config.params := by
  have hdoes := does_of_exec hexec
  obtain ⟨hown, hother, hg⟩ := (s.configLegal_iff _ i.axis).mp h
  refine (t.configLegal_iff _ i.axis).mpr ⟨?_, hdoes.other ▸ hother, ?_⟩
  · obtain haxis | ⟨-, haxis⟩ | ⟨-, haxis⟩ | ⟨hok, haxis⟩ := hdoes.axis
    · rwa [haxis]
    · rwa [haxis, AxisState.tick_eq_update]
    · rwa [haxis]
    · rw [haxis]
      obtain hsame | hlegal := Instr.writtenAxis_siderealIVal s.glob hok
      · exact hsame ▸ hown
      · exact hlegal
  · obtain hglob | ⟨hok, hglob⟩ := hdoes.glob
    · rwa [hglob]
    · rw [hglob]
      obtain hsame | hlegal := Instr.writtenGlob_eq_or_legal (g := s.glob) hok
      · rwa [hsame]
      · exact hlegal

/-- Settles O13. -/
theorem stepKeepsConfigLegal : Obligations.StepKeepsConfigLegal := by
  intro s t h hstep
  obtain ⟨-, rfl⟩ | ⟨w, rest, i, -, hexec⟩ | ⟨w, rest, -, rfl⟩ | ⟨cfg, rest, -, hvalid, rfl⟩ := step_cases hstep
  · exact h
  · exact exec_keeps_configLegal (s := { s with input := rest }) ⟨h.ra, h.dc, h.glob⟩ hexec
  · refine (State.configLegal_iff _ _ (Axis.ofBit w.axisBit)).mpr ?_
    rw [State.finish_axis, State.finish_other, State.finish_glob]
    exact (State.configLegal_iff _ { s with input := rest } _).mp ⟨h.ra, h.dc, h.glob⟩
  · exact (validResetIsLegal cfg _ _ rest hvalid).2

/-! #### The direction pin of a running axis (R162, R272) -/

/-- Only the start operations write the direction pin, each from the commanded direction that agrees with the count. -/
theorem Instr.writtenAxis_dirPin {i : Instr} {both : Bool} {a : AxisState} (g : GlobalConfig)
    (hok : i.endCode both a = .ok) :
    (i.writtenAxis g a).dirPin = a.dirPin ∨ (i.writtenAxis g a).dirPin = (a.stepDir.slt 0 ^^ a.reverse) := by
  cases i with
  | slew | start =>
    have hdir := beq_iff_eq.mp (eq_true_of_ite_code hok nofun)
    rw [hdir]
    exact .inr (AxisState.startMotion_dirPin _)
  | goto =>
    have hdir := beq_iff_eq.mp (goto_endCode_eq_ok hok).2
    rw [hdir]
    exact .inr (AxisState.startMotion_dirPin _)
  | stop =>
    simp only [Instr.writtenAxis]
    rw [AxisState.aimPastStop_eq_update]
    exact .inl rfl
  | _ => exact .inl rfl

/-- Settles O56: on a running axis the pin already agrees with the count, so a start writes what stands there. -/
theorem dirPinStable : Obligations.DirPinStable := by
  intro i s t ax h hrunning hexec
  have hdoes := does_of_exec hexec
  obtain rfl | rfl := Axis.eq_or_eq_other ax i.axis
  · obtain haxis | ⟨-, haxis⟩ | ⟨-, haxis⟩ | ⟨hok, haxis⟩ := hdoes.axis
    · rw [haxis]
    · rw [haxis, AxisState.tick_dirPin]
    · rw [haxis]
    · rw [haxis]
      obtain hsame | hcount := Instr.writtenAxis_dirPin s.glob hok
      · exact hsame
      · exact hcount.trans (((s.legal_iff i.axis).mp h).1.dirPin hrunning).symm
  · rw [hdoes.other]

end Sys2Proof.Machine

/-! ### The step engine (42_step_engine.md R130 to R141) -/

namespace Sys2Proof.Machine

open Sys2Proof

section Tick

variable (a : AxisState)

/-! #### A TICK, by the edge it reaches -/

theorem AxisState.tick_of_timerOff (h : a.timerOn = false) : a.tick = a := if_neg (by simp [h])

theorem AxisState.tick_of_count (ht : a.timerOn = true) (hirq : a.irqToNext ≠ 1) :
    a.tick = { a with irqToNext := a.irqToNext - 1 } := by
  obtain ⟨hoff, -⟩ | ⟨-, -, h⟩ | ⟨-, hone, -⟩ | ⟨-, hone, -⟩ := a.tick_cases
  · simp [ht] at hoff
  · exact h
  · exact absurd hone hirq
  · exact absurd hone hirq

theorem AxisState.tick_of_fall (ht : a.timerOn = true) (hirq : a.irqToNext = 1) (hpin : a.stepPin = true) :
    a.tick = a.slotAdvance.fall := by
  obtain ⟨hoff, -⟩ | ⟨-, hne, -⟩ | ⟨-, -, -, h⟩ | ⟨-, -, hlow, -⟩ := a.tick_cases
  · simp [ht] at hoff
  · exact absurd hirq hne
  · exact h
  · simp [hpin] at hlow

theorem AxisState.tick_of_low (ht : a.timerOn = true) (hirq : a.irqToNext = 1) (hpin : a.stepPin = false) :
    a.tick = a.slotAdvance.rise := by
  obtain ⟨hoff, -⟩ | ⟨-, hne, -⟩ | ⟨-, -, hhigh, -⟩ | ⟨-, -, -, h⟩ := a.tick_cases
  · simp [ht] at hoff
  · exact absurd hirq hne
  · simp [hpin] at hhigh
  · exact h

/-- The goto trigger fires where an armed goto meets its position (R135). -/
def AxisState.triggers : Bool := a.gotoRunning && !a.gotoDecelerating && a.jVal == a.gotoTarget

theorem AxisState.trigger_of_triggers (h : a.triggers = true) :
    a.trigger = { a with gotoDecelerating := true }.aimPastStop := if_pos h

theorem AxisState.trigger_of_not_triggers (h : a.triggers = false) : a.trigger = a :=
  if_neg (by rw [← AxisState.triggers, h]; decide)

theorem AxisState.stopCheck_eq :
    a.stopCheck =
      { a with
        stopped := a.stopped || decide (a.stopSpeed.toNat < a.currentSpeed.toNat)
        gotoRunning := a.gotoRunning && !decide (a.stopSpeed.toNat < a.currentSpeed.toNat)
        timerOn := a.timerOn && !decide (a.stopSpeed.toNat < a.currentSpeed.toNat) } := by
  obtain ⟨hslow, h⟩ | ⟨hnot, h⟩ := a.stopCheck_cases
  · rw [h, decide_eq_true (BitVec.lt_def.mp hslow), Bool.or_true, Bool.not_true, Bool.and_false, Bool.and_false]
  · rw [h, decide_eq_false (mt BitVec.lt_def.mpr hnot), Bool.or_false, Bool.not_false, Bool.and_true, Bool.and_true]

/-- The position after the step of a fall (R134). -/
def AxisState.nextJVal : BitVec 24 := BitVec.ofInt 24 (a.jVal.toNat + a.stepDir.toInt)

/-- The trigger of a fall looks at the position after its step (R135). -/
def AxisState.fallTriggers : Bool := a.gotoRunning && !a.gotoDecelerating && a.nextJVal == a.gotoTarget

/-- A fall, field by field (R134 to R136). -/
theorem AxisState.fall_spec :
    ∃ v n, a.fall =
      { a with
        stepPin := false
        jVal := a.nextJVal
        gotoDecelerating := a.gotoDecelerating || a.fallTriggers
        targetSpeed := v
        stopped := a.stopped || decide (a.stopSpeed.toNat < a.currentSpeed.toNat)
        gotoRunning := a.gotoRunning && !decide (a.stopSpeed.toNat < a.currentSpeed.toNat)
        timerOn := a.timerOn && !decide (a.stopSpeed.toNat < a.currentSpeed.toNat)
        freeCount := n } ∧
      (a.fallTriggers = false → v = a.targetSpeed ∧ n = a.freeCount) ∧
      (a.fallTriggers = true → 1 ≤ v.toNat) ∧
      (a.fallTriggers = true → a.stopSpeed ≠ 0xFFFF → v.toNat = a.stopSpeed.toNat + 1 ∧ n = a.freeCount) := by
  have hj : a.completePulse = { a with stepPin := false, jVal := a.nextJVal } := by
    rw [AxisState.completePulse, add_signExtend_eq_ofInt]
    rfl
  cases htriggers : a.fallTriggers
  · have htrig : { a with stepPin := false, jVal := a.nextJVal }.trigger =
        { a with stepPin := false, jVal := a.nextJVal } :=
      AxisState.trigger_of_not_triggers _ htriggers
    refine ⟨a.targetSpeed, a.freeCount, ?_, fun _ => ⟨rfl, rfl⟩, nofun, nofun⟩
    rw [AxisState.fall, hj, htrig, AxisState.stopCheck_eq, Bool.or_false]
  · obtain ⟨v, n, haim, hpos, hfits⟩ :=
      AxisState.aimPastStop_cases { a with stepPin := false, jVal := a.nextJVal, gotoDecelerating := true }
    have htrig := AxisState.trigger_of_triggers { a with stepPin := false, jVal := a.nextJVal } htriggers
    refine ⟨v, n, ?_, nofun, fun _ => hpos, fun _ => hfits⟩
    rw [AxisState.fall, hj, htrig, haim, AxisState.stopCheck_eq, Bool.or_true]

theorem AxisState.rise_of_dwell (h : a.accelRepeatsLeft ≠ 0) :
    a.rise = { a with stepPin := true, accelRepeatsLeft := a.accelRepeatsLeft - 1 } := by
  obtain ⟨-, hrise⟩ | ⟨hnot, -⟩ := a.rise_cases
  · exact hrise
  · exact absurd (by simpa using hnot) h

theorem AxisState.rise_of_noDwell (h : a.accelRepeatsLeft = 0) : a.rise = { a with stepPin := true }.walk := by
  obtain ⟨hleft, -⟩ | ⟨-, hrise⟩ := a.rise_cases
  · simp [h] at hleft
  · exact hrise

theorem AxisState.walk_of_eq (h : a.currentSpeed = a.targetSpeed) : a.walk = a := by
  obtain ⟨hlt, -⟩ | ⟨hlt, -⟩ | ⟨-, hwalk⟩ := a.walk_cases
  · simp [h] at hlt
  · simp [h] at hlt
  · exact hwalk

end Tick

/-! #### The TICK obligations -/

/-- Settles O14. -/
theorem tickTimerOff : Obligations.TickTimerOff := by
  intro s ax hoff
  rw [exec_tick, AxisState.tick_of_timerOff _ hoff, State.setAxis_axis]
  rfl

/-- Settles O15. -/
theorem tickCountdown : Obligations.TickCountdown := by
  intro s ax ht hirq
  exact ⟨_, exec_tick s ax, State.ticked_of_tick_eq (AxisState.tick_of_count _ ht hirq)⟩

/-- Settles O16. -/
theorem tickFall : Obligations.TickFall := by
  intro s ax ht hirq hpin a seg j triggers stops
  obtain ⟨v, n, hfall, hkeep, hpos, hfits⟩ := a.slotAdvance.fall_spec
  refine ⟨_, v, n, exec_tick s ax, State.ticked_of_tick_eq ?_, hkeep, hpos, hfits⟩
  rw [a.tick_of_fall ht hirq hpin, hfall]
  simp only [AxisState.slotAdvance, show a.timerOn = true from ht, Bool.true_and]
  rfl

/-- Settles O17. -/
theorem tickDwell : Obligations.TickDwell := by
  intro s ax ht hirq hpin hdwell a seg
  exact ⟨_, exec_tick s ax,
    State.ticked_of_tick_eq ((a.tick_of_low ht hirq hpin).trans (a.slotAdvance.rise_of_dwell hdwell))⟩

/-- Settles O20. -/
theorem tickCruise : Obligations.TickCruise := by
  intro s ax ht hirq hpin hdwell hspeed a seg
  refine ⟨_, exec_tick s ax, State.ticked_of_tick_eq ?_⟩
  rw [a.tick_of_low ht hirq hpin, a.slotAdvance.rise_of_noDwell hdwell]
  exact AxisState.walk_of_eq _ hspeed

/-! #### TICKs of one axis (30_encoding.md R94) -/

/-- `n` TICKs of an axis from `s` to `t`: the axis has ticked `n` times and nothing else has changed, but that a TICK
leaves no response. -/
structure State.TickedBy (s t : State) (ax : Axis) (n : Nat) : Prop where
  axis : t.axis ax = AxisState.tick^[n] (s.axis ax)
  other : t.axis ax.other = s.axis ax.other
  glob : t.glob = s.glob
  input : t.input = s.input
  response : t.response = if n = 0 then s.response else none

theorem execTicks_tickedBy (ax : Axis) (n : Nat) :
    ∀ s : State, ∃ t, execTicks ax n s = .next t ∧ State.TickedBy s t ax n := by
  induction n with
  | zero => exact fun s => ⟨s, rfl, rfl, rfl, rfl, rfl, rfl⟩
  | succ n ih =>
    intro s
    obtain ⟨t, ht, haxis, hother, hglob, hinput, hresp⟩ := ih (s.setAxis ax (s.axis ax).tick).silent
    rw [State.silent_axis, State.axis_setAxis] at haxis
    rw [State.silent_axis, State.other_setAxis] at hother
    refine ⟨t, ht, haxis, hother, hglob.trans (s.setAxis_glob ax _), hinput.trans (s.setAxis_input ax _), ?_⟩
    rw [hresp, State.silent_response, ite_self, if_neg n.succ_ne_zero]

section Iterate

variable {a : AxisState}

/-- Until the countdown reaches 0 TICKs only count (R132). -/
theorem AxisState.tick_iterate_of_lt (ht : a.timerOn = true) :
    ∀ {n : Nat}, n < a.irqToNext.toNat →
      AxisState.tick^[n] a = { a with irqToNext := BitVec.ofNat 16 (a.irqToNext.toNat - n) } := by
  intro n
  induction n with
  | zero => simp
  | succ n ih =>
    intro hn
    have hlt := a.irqToNext.isLt
    rw [Function.iterate_succ_apply', ih (by omega), AxisState.tick_of_count]
    · have hcount : BitVec.ofNat 16 (a.irqToNext.toNat - n) - 1 = BitVec.ofNat 16 (a.irqToNext.toNat - (n + 1)) := by
        bv_omega
      simp only [hcount]
    · exact ht
    · bv_omega

/-- A phase ends in its edge: `irqToNext` TICKs from any point of it (R132, R133). -/
theorem AxisState.tick_iterate_irqToNext (ht : a.timerOn = true) (hirq : 1 ≤ a.irqToNext.toNat) :
    AxisState.tick^[a.irqToNext.toNat] a = { a with irqToNext := 1 }.tick := by
  obtain ⟨n, hn⟩ := Nat.exists_eq_add_of_le' hirq
  have hone : BitVec.ofNat 16 (a.irqToNext.toNat - n) = 1 := by bv_omega
  rw [hn, Function.iterate_succ_apply', AxisState.tick_iterate_of_lt ht (by omega), hone]

theorem AxisState.tick_iterate_fall (ht : a.timerOn = true) (hirq : 1 ≤ a.irqToNext.toNat) (hpin : a.stepPin = true) :
    AxisState.tick^[a.irqToNext.toNat] a = a.slotAdvance.fall :=
  (AxisState.tick_iterate_irqToNext ht hirq).trans (AxisState.tick_of_fall { a with irqToNext := 1 } ht rfl hpin)

theorem AxisState.tick_iterate_rise (ht : a.timerOn = true) (hirq : 1 ≤ a.irqToNext.toNat) (hpin : a.stepPin = false) :
    AxisState.tick^[a.irqToNext.toNat] a = a.slotAdvance.rise :=
  (AxisState.tick_iterate_irqToNext ht hirq).trans (AxisState.tick_of_low { a with irqToNext := 1 } ht rfl hpin)

theorem AxisState.rise_stepPin (a : AxisState) : a.rise.stepPin = true := by
  obtain ⟨-, h⟩ | ⟨-, h⟩ := a.rise_cases
  · rw [h]
  · rw [h, AxisState.walk_eq_update]

/-- One pulse from a low pin: its rise and its fall. -/
def AxisState.pulse (a : AxisState) : AxisState := a.slotAdvance.rise.slotAdvance.fall

/-- The high phase of a pulse lasts the speed in effect before its rise (R133). -/
theorem AxisState.tick_iterate_pulse (ht : a.timerOn = true) (hpin : a.stepPin = false)
    (hirq : 1 ≤ a.irqToNext.toNat) (hspeed : 1 ≤ a.currentSpeed.toNat) :
    AxisState.tick^[a.currentSpeed.toNat + a.irqToNext.toNat] a = a.pulse := by
  have hrise_irq : a.slotAdvance.rise.irqToNext = a.currentSpeed := by
    rw [AxisState.rise_eq_update]
    rfl
  have hrise_timer : a.slotAdvance.rise.timerOn = true := by
    rw [AxisState.rise_eq_update]
    exact ht
  have hfall := AxisState.tick_iterate_fall hrise_timer (by rwa [hrise_irq]) a.slotAdvance.rise_stepPin
  rw [Function.iterate_add_apply, AxisState.tick_iterate_rise ht hirq hpin]
  rwa [hrise_irq] at hfall

end Iterate

/-- Settles O21. -/
theorem phaseLength : Obligations.PhaseLength := by
  intro s ax n ht hpos hn
  obtain ⟨t, hexec, haxis, hother, hglob, hinput, hresp⟩ := execTicks_tickedBy ax n s
  rw [AxisState.tick_iterate_of_lt ht hn] at haxis
  exact ⟨t, hexec, haxis, hother, hglob, hinput, hresp.trans (if_neg (by omega))⟩

/-! #### Steady motion (R141) -/

section Steady

variable {a : AxisState}

theorem AxisState.fall_of_not_fallTriggers (h : a.fallTriggers = false) :
    a.fall =
      { a with
        stepPin := false
        jVal := a.nextJVal
        stopped := a.stopped || decide (a.stopSpeed.toNat < a.currentSpeed.toNat)
        gotoRunning := a.gotoRunning && !decide (a.stopSpeed.toNat < a.currentSpeed.toNat)
        timerOn := a.timerOn && !decide (a.stopSpeed.toNat < a.currentSpeed.toNat) } := by
  obtain ⟨v, n, hfall, hkeep, -⟩ := a.fall_spec
  obtain ⟨rfl, rfl⟩ := hkeep h
  rw [hfall, h, Bool.or_false]

/-- A fall below the stop threshold, away from the trigger, only steps. -/
theorem AxisState.fall_of_running (h : a.fallTriggers = false) (hspeed : a.currentSpeed.toNat ≤ a.stopSpeed.toNat) :
    a.fall = { a with stepPin := false, jVal := a.nextJVal } := by
  rw [AxisState.fall_of_not_fallTriggers h, decide_eq_false (Nat.not_lt.mpr hspeed)]
  simp only [Bool.or_false, Bool.not_false, Bool.and_true]

/-- A pulse of an axis that moves at its target speed (R140). -/
theorem AxisState.pulse_of_steady (hpin : a.stepPin = false) (hirq : a.irqToNext = a.currentSpeed)
    (htarget : a.currentSpeed = a.targetSpeed) (hstop : a.currentSpeed.toNat ≤ a.stopSpeed.toNat)
    (hdwell : a.accelRepeatsLeft = 0) (htrig : a.fallTriggers = false) :
    a.pulse =
      { a with
        jVal := a.nextJVal
        distributionSegment := a.distributionSegment + 1 + 1
        timerTop := a.rate[(a.distributionSegment + 1 + 1).toNat] } := by
  have hrise : a.slotAdvance.rise = { a.slotAdvance with stepPin := true } :=
    (AxisState.rise_of_noDwell a.slotAdvance hdwell).trans
      (AxisState.walk_of_eq { a.slotAdvance with stepPin := true } htarget)
  have hfall := AxisState.fall_of_running (a := { a.slotAdvance with stepPin := true }.slotAdvance) htrig hstop
  rw [AxisState.pulse, hrise, hfall]
  simp only [AxisState.slotAdvance, ← hirq, ← hpin]
  rfl

/-- The axis after `n` pulses of steady motion (R141). -/
def AxisState.cruised (a : AxisState) (n : Nat) : AxisState :=
  { a with
    jVal := BitVec.ofInt 24 (a.jVal.toNat + n * a.stepDir.toInt)
    distributionSegment := a.distributionSegment + BitVec.ofNat 5 (2 * n)
    timerTop := if n = 0 then a.timerTop else a.rate[(a.distributionSegment + BitVec.ofNat 5 (2 * n)).toNat] }

theorem AxisState.cruised_zero : a.cruised 0 = a := by
  simp [AxisState.cruised, BitVec.ofInt_natCast]

/-- Steps add up modulo 2^24. -/
theorem ofInt_toNat_ofInt_add (x y : Int) :
    BitVec.ofInt 24 ((BitVec.ofInt 24 x).toNat + y) = BitVec.ofInt 24 (x + y) := by
  rw [BitVec.ofInt_add, BitVec.ofInt_natCast, BitVec.ofNat_toNat, BitVec.setWidth_eq, ← BitVec.ofInt_add]

theorem AxisState.cruised_nextJVal (n : Nat) :
    (a.cruised n).nextJVal = BitVec.ofInt 24 (a.jVal.toNat + (n + 1 : Nat) * a.stepDir.toInt) := by
  rw [AxisState.nextJVal, AxisState.cruised, ofInt_toNat_ofInt_add]
  congr 1
  push_cast
  ring

/-- A goto under way moves on as long as its position does not meet its trigger. -/
def AxisState.NoTriggerWithin (a : AxisState) (n : Nat) : Prop :=
  a.gotoRunning = false ∨ a.gotoDecelerating = true ∨
    ∀ k : Nat, 1 ≤ k → k ≤ n → BitVec.ofInt 24 (a.jVal.toNat + k * a.stepDir.toInt) ≠ a.gotoTarget

theorem AxisState.NoTriggerWithin.pred {n : Nat} (h : a.NoTriggerWithin (n + 1)) : a.NoTriggerWithin n :=
  h.imp_right (Or.imp_right fun hpos k hk hkn => hpos k hk (hkn.trans n.le_succ))

theorem AxisState.NoTriggerWithin.fallTriggers_cruised {n : Nat} (h : a.NoTriggerWithin (n + 1)) :
    (a.cruised n).fallTriggers = false := by
  rw [AxisState.fallTriggers, AxisState.cruised_nextJVal]
  obtain hrunning | hbraking | hpos := h
  · rw [show (a.cruised n).gotoRunning = false from hrunning, Bool.false_and, Bool.false_and]
  · rw [show (a.cruised n).gotoDecelerating = true from hbraking, Bool.not_true, Bool.and_false, Bool.false_and]
  · have hne := beq_eq_false_iff_ne.mpr (hpos (n + 1) n.succ_pos le_rfl)
    rw [show (a.cruised n).gotoTarget = a.gotoTarget from rfl, hne, Bool.and_false]

theorem AxisState.tick_iterate_steady (ht : a.timerOn = true) (hpin : a.stepPin = false)
    (hirq : a.irqToNext = a.currentSpeed) (hpos : 0 < a.currentSpeed.toNat) (htarget : a.currentSpeed = a.targetSpeed)
    (hstop : a.currentSpeed.toNat ≤ a.stopSpeed.toNat) (hdwell : a.accelRepeatsLeft = 0) :
    ∀ {n : Nat}, a.NoTriggerWithin n → AxisState.tick^[2 * a.currentSpeed.toNat * n] a = a.cruised n := by
  intro n
  induction n with
  | zero => exact fun _ => AxisState.cruised_zero.symm
  | succ n ih =>
    intro htrig
    have hticks := AxisState.tick_iterate_pulse (a := a.cruised n) ht hpin (hirq ▸ hpos) hpos
    have hpulse := AxisState.pulse_of_steady (a := a.cruised n) hpin hirq htarget hstop hdwell
      htrig.fallTriggers_cruised
    have hlen : 2 * a.currentSpeed.toNat * (n + 1) =
        a.currentSpeed.toNat + a.irqToNext.toNat + 2 * a.currentSpeed.toNat * n := by
      rw [hirq]
      ring
    have hseg : a.distributionSegment + BitVec.ofNat 5 (2 * n) + 1 + 1 =
        a.distributionSegment + BitVec.ofNat 5 (2 * (n + 1)) := by
      rw [Nat.mul_succ, BitVec.ofNat_add, add_assoc, add_assoc]
      rfl
    rw [hlen, Function.iterate_add_apply, ih htrig.pred]
    refine (hticks.trans hpulse).trans ?_
    rw [AxisState.cruised_nextJVal]
    simp only [AxisState.cruised, hseg, if_neg n.succ_ne_zero]

end Steady

/-- Settles O22. -/
theorem steadyMotion : Obligations.SteadyMotion := by
  intro s ax n a ht hpin hirq hpos htarget hstop hdwell htrig
  obtain ⟨t, hexec, haxis, hother, hglob, hinput, hresp⟩ := execTicks_tickedBy ax (2 * a.currentSpeed.toNat * n) s
  refine ⟨t, hexec, hother, hglob, hinput, ?_, ?_⟩
  · have hlen : 2 * a.currentSpeed.toNat * n = 0 ↔ n = 0 := by
      rw [Nat.mul_eq_zero]
      omega
    simpa only [hlen] using hresp
  · exact haxis.trans (AxisState.tick_iterate_steady ht hpin hirq hpos htarget hstop hdwell htrig)

end Sys2Proof.Machine

/-! ### Decelerations and gotos (41_accel_profile.md R116 to R118; 70_reset_and_hazards.md R276) -/

namespace Sys2Proof.Machine

open Sys2Proof

section Braking

variable {a : AxisState}

/-! #### A rise of an axis that is faster than its target -/

/-- Above the first entry a rise without dwell goes one entry down, and snaps where that entry is slower than the target
(R139). -/
theorem AxisState.rise_of_entry {i : Fin 6} (hdwell : a.accelRepeatsLeft = 0)
    (hfaster : a.currentSpeed.toNat < a.targetSpeed.toNat) (hi : i.val + 1 = a.accelIndex.val) :
    a.rise =
      if a.targetSpeed.toNat < a.accel[i.val].speed.toNat then
        { a with stepPin := true, accelIndex := i, currentSpeed := a.targetSpeed }
      else
        { a with
          stepPin := true
          accelIndex := i
          currentSpeed := a.accel[i.val].speed
          accelRepeatsLeft := a.rep i } := by
  rw [a.rise_of_noDwell hdwell, AxisState.walk_of_faster { a with stepPin := true } hfaster,
    AxisState.decelerate_of_pred { a with stepPin := true } hi, AxisState.rep_eq_ofNat]

/-- At the first entry a rise without dwell snaps to the target (R139). -/
theorem AxisState.rise_of_first (hdwell : a.accelRepeatsLeft = 0)
    (hfaster : a.currentSpeed.toNat < a.targetSpeed.toNat) (hfirst : a.accelIndex.val = 0) :
    a.rise = { a with stepPin := true, currentSpeed := a.targetSpeed } := by
  rw [a.rise_of_noDwell hdwell, AxisState.walk_of_faster { a with stepPin := true } hfaster,
    AxisState.decelerate_of_first { a with stepPin := true } hfirst]

/-- A walk of an axis that is not faster than its target does not make it faster than that (R138, R140). -/
theorem AxisState.targetSpeed_le_walk (h : a.targetSpeed.toNat ≤ a.currentSpeed.toNat) :
    a.targetSpeed.toNat ≤ a.walk.currentSpeed.toNat := by
  obtain ⟨-, hwalk⟩ | ⟨hfaster, -⟩ | ⟨-, hwalk⟩ := a.walk_cases
  · rw [hwalk]
    obtain ⟨-, hnext⟩ | ⟨-, -, hnext⟩ | ⟨-, hreached, hnext⟩ := a.accelerate_cases
    · rw [hnext]
    · rw [hnext]
    · rw [hnext]
      exact BitVec.not_lt.mp hreached
  · exact absurd (BitVec.lt_def.mp hfaster) (Nat.not_lt.mpr h)
  · rw [hwalk]
    exact h

theorem fin6_eq_zero_or_succ (k : Fin 6) : k.val = 0 ∨ ∃ i : Fin 6, i.val + 1 = k.val := by
  revert k
  decide

/-! #### The potential of a deceleration -/

/-- The pulses a deceleration may still take, at most: the dwell left, and a full dwell for each entry below. -/
def AxisState.pulsesLeft (a : AxisState) : Nat := 768 * a.accelIndex.val + a.accelRepeatsLeft.toNat

/-- A rise of an axis whose target is slower than its stop threshold leaves it slower than the threshold, or takes one
of the pulses left. -/
theorem AxisState.rise_braking (hbrake : a.stopSpeed.toNat < a.targetSpeed.toNat) :
    a.rise.stopSpeed.toNat < a.rise.currentSpeed.toNat ∨ a.rise.pulsesLeft < a.pulsesLeft := by
  have hstop : a.rise.stopSpeed = a.stopSpeed := by rw [AxisState.rise_eq_update]
  rw [hstop]
  by_cases hdwell : a.accelRepeatsLeft = 0
  · by_cases hfaster : a.currentSpeed.toNat < a.targetSpeed.toNat
    · obtain hfirst | ⟨i, hi⟩ := fin6_eq_zero_or_succ a.accelIndex
      · rw [AxisState.rise_of_first hdwell hfaster hfirst]
        exact .inl hbrake
      · rw [AxisState.rise_of_entry hdwell hfaster hi]
        split_ifs
        · exact .inl hbrake
        · refine .inr ?_
          have hrep := a.rep_le i
          simp only [AxisState.pulsesLeft]
          omega
    · refine .inl (hbrake.trans_le ?_)
      rw [a.rise_of_noDwell hdwell]
      exact AxisState.targetSpeed_le_walk (a := { a with stepPin := true }) (Nat.le_of_not_lt hfaster)
  · rw [a.rise_of_dwell hdwell]
    refine .inr ?_
    have hpos : a.accelRepeatsLeft.toNat ≠ 0 := mt (BitVec.eq_of_toNat_eq (y := 0)) hdwell
    simp only [AxisState.pulsesLeft]
    bv_omega

/-! #### A deceleration ends (R276) -/

/-- A running axis whose target is slower than its stop threshold. -/
structure AxisState.Braking (a : AxisState) : Prop where
  legal : a.Legal
  running : a.stopped = false
  brake : a.stopSpeed.toNat < a.targetSpeed.toNat

theorem AxisState.Braking.timerOn (h : a.Braking) : a.timerOn = true := by
  rw [h.legal.timer, h.running]
  rfl

theorem AxisState.Braking.slotAdvance (h : a.Braking) : a.slotAdvance.Braking :=
  ⟨h.legal.slotAdvance, h.running, h.brake⟩

theorem AxisState.Braking.rise (h : a.Braking) : a.rise.Braking := by
  refine ⟨h.legal.rise, ?_, ?_⟩
  · rw [AxisState.rise_eq_update]
    exact h.running
  · rw [AxisState.rise_eq_update]
    exact h.brake

theorem AxisState.fall_stopped_of_slower (h : a.stopSpeed.toNat < a.currentSpeed.toNat) : a.fall.stopped = true := by
  rw [AxisState.fall_stopped, decide_eq_true (BitVec.lt_def.mpr h), Bool.or_true]

/-- The trigger's own target, `stopSpeed + 1`, is slower than the threshold too (R135). -/
theorem AxisState.fall_targetSpeed (h : a.stopSpeed.toNat < a.targetSpeed.toNat) :
    a.fall.stopSpeed.toNat < a.fall.targetSpeed.toNat := by
  obtain ⟨v, n, hfall, hkeep, -, hfits⟩ := a.fall_spec
  rw [hfall]
  cases htrig : a.fallTriggers
  · rw [(hkeep htrig).1]
    exact h
  · have hne : a.stopSpeed ≠ 0xFFFF := by
      have hlt := a.targetSpeed.isLt
      bv_omega
    rw [(hfits htrig hne).1]
    exact Nat.lt_succ_self _

theorem AxisState.Braking.fall (h : a.Braking) (hrun : a.fall.stopped = false) : a.fall.Braking :=
  ⟨h.legal.fall, hrun, a.fall_targetSpeed h.brake⟩

theorem AxisState.fall_pulsesLeft : a.fall.pulsesLeft = a.pulsesLeft := by
  rw [AxisState.fall_eq_update]
  rfl

/-- A pulse of a deceleration stops the axis or takes one of the pulses left. -/
theorem AxisState.Braking.pulse (h : a.Braking) :
    a.pulse.stopped = true ∨ a.pulse.Braking ∧ a.pulse.pulsesLeft < a.pulsesLeft := by
  have hrise := h.slotAdvance.rise.slotAdvance
  obtain hslow | hless := a.slotAdvance.rise_braking h.brake
  · exact .inl (AxisState.fall_stopped_of_slower (a := a.slotAdvance.rise.slotAdvance) hslow)
  · by_cases hrun : a.pulse.stopped = true
    · exact .inl hrun
    · exact .inr ⟨hrise.fall (Bool.eq_false_of_not_eq_true hrun), AxisState.fall_pulsesLeft.trans_lt hless⟩

/-- Every pulse takes at most two phases of 65535 TICKs. -/
theorem AxisState.Braking.ends_from_low (m : Nat) : ∀ {a : AxisState}, a.Braking → a.stepPin = false →
    a.pulsesLeft < m → ∃ n ≤ 131070 * m, (AxisState.tick^[n] a).stopped = true := by
  induction m with
  | zero => exact fun _ _ h => absurd h (Nat.not_lt_zero _)
  | succ m ih =>
    intro a h hpin hleft
    have hticks := AxisState.tick_iterate_pulse h.timerOn hpin h.legal.irqToNext h.legal.currentSpeed
    have hirq := a.irqToNext.isLt
    have hspeed := a.currentSpeed.isLt
    obtain hend | ⟨hnext, hless⟩ := h.pulse
    · exact ⟨_, by omega, hticks ▸ hend⟩
    · obtain ⟨n, hn, hend⟩ := ih hnext (AxisState.fall_stepPin _) (by omega)
      refine ⟨n + (a.currentSpeed.toNat + a.irqToNext.toNat), by omega, ?_⟩
      rwa [Function.iterate_add_apply, hticks]

theorem AxisState.Legal.pulsesLeft_lt (h : a.Legal) : a.pulsesLeft < 4608 := by
  have hindex := a.accelIndex.isLt
  have hdwell := h.dwell
  unfold AxisState.pulsesLeft
  omega

theorem AxisState.Braking.ends (h : a.Braking) : ∃ n ≤ 2 ^ 30, (AxisState.tick^[n] a).stopped = true := by
  have hlow : ∀ {b : AxisState}, b.Braking → b.stepPin = false →
      ∃ n ≤ 131070 * 4608, (AxisState.tick^[n] b).stopped = true :=
    fun hb hpin => AxisState.Braking.ends_from_low 4608 hb hpin hb.legal.pulsesLeft_lt
  cases hpin : a.stepPin
  · obtain ⟨n, hn, hend⟩ := hlow h hpin
    exact ⟨n, by omega, hend⟩
  · have hticks := AxisState.tick_iterate_fall h.timerOn h.legal.irqToNext hpin
    have hirq := a.irqToNext.isLt
    cases hrun : a.slotAdvance.fall.stopped
    · obtain ⟨n, hn, hend⟩ := hlow (h.slotAdvance.fall hrun) (AxisState.fall_stepPin _)
      refine ⟨n + a.irqToNext.toNat, by omega, ?_⟩
      rwa [Function.iterate_add_apply, hticks]
    · exact ⟨a.irqToNext.toNat, by omega, hticks ▸ hrun⟩

theorem AxisState.Legal.tick_iterate (h : a.Legal) (n : Nat) : (AxisState.tick^[n] a).Legal := by
  induction n with
  | zero => exact h
  | succ n ih =>
    rw [Function.iterate_succ_apply']
    exact ih.tick

end Braking

/-- Settles O23: the pulses left bound the deceleration, a fall at the start adds one phase. -/
theorem decelerationEnds : Obligations.DecelerationEnds := by
  intro s ax hlegal hrun hbrake
  obtain ⟨n, hn, hend⟩ := AxisState.Braking.ends ⟨hlegal, hrun, hbrake⟩
  obtain ⟨t, hexec, haxis, -⟩ := execTicks_tickedBy ax n s
  refine ⟨n, hn, t, hexec, haxis ▸ hend, ?_⟩
  rw [haxis, (hlegal.tick_iterate n).timer, hend]
  rfl

/-! #### The length of a deceleration (R116, R118) -/

section Landing

variable {a : AxisState}

/-- The steps to the last entry's end: the dwell left, and `Rep + 1` for each entry below (R116). -/
def AxisState.stepsLeft (a : AxisState) : Nat :=
  a.accelRepeatsLeft.toNat + ∑ i : Fin 6 with i < a.accelIndex, ((a.rep i).toNat + 1)

/-- A deceleration below the stop threshold through entries below it, with no trigger to come. -/
structure AxisState.Landing (a : AxisState) : Prop where
  braking : a.Braking
  noTrigger : a.gotoRunning = false ∨ a.gotoDecelerating = true
  speed : a.currentSpeed.toNat ≤ a.stopSpeed.toNat
  entries : ∀ i : Fin 6, i < a.accelIndex → a.accel[i.val].speed.toNat ≤ a.stopSpeed.toNat

theorem AxisState.Landing.slotAdvance (h : a.Landing) : a.slotAdvance.Landing :=
  ⟨h.braking.slotAdvance, h.noTrigger, h.speed, h.entries⟩

theorem AxisState.Landing.not_fallTriggers (h : a.Landing) : a.fallTriggers = false := by
  unfold AxisState.fallTriggers
  obtain hidle | hbraking := h.noTrigger
  · rw [hidle, Bool.false_and, Bool.false_and]
  · rw [hbraking, Bool.not_true, Bool.and_false, Bool.false_and]

theorem AxisState.Landing.fall_eq (h : a.Landing) : a.fall = { a with stepPin := false, jVal := a.nextJVal } :=
  AxisState.fall_of_running h.not_fallTriggers h.speed

theorem AxisState.Landing.fall (h : a.Landing) : a.fall.Landing := by
  have hbraking : a.fall.Braking := h.braking.fall (by rw [h.fall_eq]; exact h.braking.running)
  rw [h.fall_eq] at hbraking ⊢
  exact ⟨hbraking, h.noTrigger, h.speed, h.entries⟩

theorem AxisState.Landing.fall_stepsLeft (h : a.Landing) : a.fall.stepsLeft = a.stepsLeft := by
  rw [h.fall_eq]
  rfl

theorem sum_lt_succ (f : Fin 6 → Nat) {i k : Fin 6} (hi : i.val + 1 = k.val) :
    ∑ j : Fin 6 with j < k, f j = f i + ∑ j : Fin 6 with j < i, f j := by
  have hset : (Finset.univ.filter fun j : Fin 6 => j < k) = insert i (Finset.univ.filter fun j : Fin 6 => j < i) := by
    ext j
    simp only [Finset.mem_filter, Finset.mem_univ, true_and, Finset.mem_insert, Fin.lt_def, Fin.ext_iff]
    omega
  rw [hset, Finset.sum_insert (by simp)]

theorem AxisState.Landing.faster (h : a.Landing) : a.currentSpeed.toNat < a.targetSpeed.toNat :=
  h.speed.trans_lt h.braking.brake

/-- A rise with steps left takes one of them: of the dwell, or by going to the entry below. -/
theorem AxisState.Landing.rise {m : Nat} (h : a.Landing) (hleft : a.stepsLeft = m + 1) :
    a.rise.Landing ∧ a.rise.stepsLeft = m := by
  have hbraking := h.braking.rise
  by_cases hdwell : a.accelRepeatsLeft = 0
  · have hzero : a.accelRepeatsLeft.toNat = 0 := by rw [hdwell]; rfl
    obtain hfirst | ⟨i, hi⟩ := fin6_eq_zero_or_succ a.accelIndex
    · have hnone : a.stepsLeft = 0 := by
        rw [AxisState.stepsLeft, hzero, show a.accelIndex = 0 from Fin.ext hfirst]
        simp
      omega
    · have hbelow : i < a.accelIndex := by rw [Fin.lt_def]; omega
      have hentry := h.entries i hbelow
      have hrise := AxisState.rise_of_entry hdwell h.faster hi
      rw [if_neg (Nat.not_lt.mpr (hentry.trans h.braking.brake.le))] at hrise
      rw [hrise] at hbraking ⊢
      refine ⟨⟨hbraking, h.noTrigger, hentry, fun j hj => h.entries j (lt_trans hj hbelow)⟩, ?_⟩
      rw [AxisState.stepsLeft, hzero, sum_lt_succ _ hi] at hleft
      change (a.rep i).toNat + ∑ j : Fin 6 with j < i, ((a.rep j).toNat + 1) = m
      omega
  · have hrise := a.rise_of_dwell hdwell
    have hpos : a.accelRepeatsLeft.toNat ≠ 0 := mt (BitVec.eq_of_toNat_eq (y := 0)) hdwell
    rw [hrise] at hbraking ⊢
    refine ⟨⟨hbraking, h.noTrigger, h.speed, h.entries⟩, ?_⟩
    unfold AxisState.stepsLeft at hleft
    change (a.accelRepeatsLeft - 1).toNat + ∑ j : Fin 6 with j < a.accelIndex, ((a.rep j).toNat + 1) = m
    bv_omega

/-- With no step left the rise snaps to the target, and the fall stops. -/
theorem AxisState.Landing.rise_of_none (h : a.Landing) (hleft : a.stepsLeft = 0) :
    a.rise = { a with stepPin := true, currentSpeed := a.targetSpeed } := by
  rw [AxisState.stepsLeft, Nat.add_eq_zero_iff] at hleft
  obtain ⟨hdwell, hsum⟩ := hleft
  obtain hfirst | ⟨i, hi⟩ := fin6_eq_zero_or_succ a.accelIndex
  · exact AxisState.rise_of_first (BitVec.eq_of_toNat_eq hdwell) h.faster hfirst
  · rw [sum_lt_succ _ hi] at hsum
    omega

theorem AxisState.pulse_jVal (a : AxisState) : a.pulse.jVal = a.nextJVal := by
  rw [AxisState.pulse, AxisState.fall_jVal, AxisState.rise_eq_update]
  rfl

theorem AxisState.pulse_stepDir (a : AxisState) : a.pulse.stepDir = a.stepDir := by
  rw [AxisState.pulse, AxisState.fall_eq_update, AxisState.rise_eq_update]
  rfl

/-- A deceleration takes one step for each step left, and one that stops (R116, R118). -/
theorem AxisState.Landing.lands (m : Nat) : ∀ {a : AxisState}, a.Landing → a.stepPin = false → a.stepsLeft = m →
    ∃ n, (AxisState.tick^[n] a).stopped = true ∧
      (AxisState.tick^[n] a).jVal = BitVec.ofInt 24 (a.jVal.toNat + a.stepDir.toInt * (1 + m : Nat)) := by
  induction m with
  | zero =>
    intro a h hpin hleft
    have hrise := h.slotAdvance.rise_of_none hleft
    refine ⟨a.currentSpeed.toNat + a.irqToNext.toNat, ?_⟩
    rw [AxisState.tick_iterate_pulse h.braking.timerOn hpin h.braking.legal.irqToNext h.braking.legal.currentSpeed]
    refine ⟨?_, by rw [AxisState.pulse_jVal, AxisState.nextJVal, Nat.cast_one, mul_one]⟩
    rw [AxisState.pulse, hrise]
    exact AxisState.fall_stopped_of_slower h.braking.brake
  | succ m ih =>
    intro a h hpin hleft
    obtain ⟨hrise, hless⟩ := h.slotAdvance.rise hleft
    obtain ⟨n, hstop, hj⟩ := ih hrise.slotAdvance.fall (AxisState.fall_stepPin _)
      (hrise.slotAdvance.fall_stepsLeft.trans hless)
    refine ⟨n + (a.currentSpeed.toNat + a.irqToNext.toNat), ?_⟩
    rw [Function.iterate_add_apply,
      AxisState.tick_iterate_pulse h.braking.timerOn hpin h.braking.legal.irqToNext h.braking.legal.currentSpeed]
    refine ⟨hstop, hj.trans ?_⟩
    rw [← AxisState.pulse, AxisState.pulse_jVal, AxisState.pulse_stepDir, AxisState.nextJVal, ofInt_toNat_ofInt_add]
    congr 1
    push_cast
    ring

end Landing

/-- Settles O24. -/
theorem decelerationDistance : Obligations.DecelerationDistance := by
  intro s ax a hlegal hrun hpin hdwell htarget hspeed hgoto hentries
  have hlanding : a.Landing := ⟨⟨hlegal, hrun, htarget ▸ Nat.lt_succ_self _⟩, hgoto, hspeed, hentries⟩
  have hleft : a.stepsLeft = ∑ i : Fin 6 with i < a.accelIndex, ((a.rep i).toNat + 1) := by
    rw [AxisState.stepsLeft, hdwell]
    exact Nat.zero_add _
  obtain ⟨n, hstop, hj⟩ := AxisState.Landing.lands _ hlanding hpin hleft
  obtain ⟨t, hexec, haxis, -⟩ := execTicks_tickedBy ax n s
  exact ⟨n, t, hexec, haxis ▸ hstop, haxis ▸ hj⟩

/-! #### A goto (R117, R118) -/

theorem AxisState.stepDir_toInt (a : AxisState) (hdir : a.dirConsistent = true) :
    a.stepDir.toInt = (if a.dir then -1 else 1) * a.mag := by
  have hsign := a.dirConsistent_iff.mp hdir
  unfold AxisState.mag
  cases hd : a.dir <;> simp only [hd, Bool.false_eq_true, if_false, if_true, iff_true, iff_false] at hsign ⊢ <;> omega

/-- The number of deceleration steps depends on the table, the goto speed and the mode alone. -/
theorem AxisState.decelSteps_congr {a b : AxisState} (haccel : b.accel = a.accel)
    (hgoto : b.normalGotoSpeed = a.normalGotoSpeed) (hmode : b.highSpeedMode = a.highSpeedMode) :
    b.decelSteps = a.decelSteps := by
  unfold AxisState.decelSteps AxisState.dwellSum AxisState.cruiseIndex
  rw [haccel, hgoto, hmode]

/-- Settles O25: the trigger stands `mag * decelSteps` before the end, and the deceleration takes `decelSteps` steps. -/
theorem gotoLandsExactly : Obligations.GotoLandsExactly := by
  intro s v u ax a b hv hlegal hstopped hdir hunclamped hexec hb htarget hstep hmode haccel hspeed hrun _ hbraking hj
    hpin hdwell hstop hcur hcruise hentries
  obtain ⟨t, hgoto, hwrote⟩ := goto s ax hstopped (a.dirConsistent_iff.mp hdir)
  obtain rfl : t = v := Host.Outcome.next.inj (hgoto.symm.trans hexec)
  obtain ⟨n, w, hticks, hend, hlanded⟩ :=
    decelerationDistance u ax hb hrun hpin hdwell hstop hcur (.inr hbraking) hentries
  have hsteps : 1 + ∑ i : Fin 6 with i < b.accelIndex, ((b.rep i).toNat + 1) = a.decelSteps := by
    rw [hcruise, ← AxisState.decelSteps_eq, AxisState.decelSteps_congr haccel hspeed hmode]
  have hstart : b.jVal = BitVec.ofInt 24
      (a.jVal.toNat + (if a.dir then -1 else 1) * (hv - (a.mag * a.decelSteps : Nat))) := by
    rw [hj, htarget, hwrote.axis, ← Nat.min_eq_left hunclamped, AxisState.startMotion_eq_update]
    rfl
  refine ⟨n, w, hticks, hend, ?_⟩
  rw [hlanded, hsteps, show (u.axis ax).jVal = _ from hstart, ofInt_toNat_ofInt_add,
    show (u.axis ax).stepDir = _ from hstep, a.stepDir_toInt hdir]
  congr 1
  split_ifs <;> push_cast <;> ring

end Sys2Proof.Machine

/-! ### The rate table (40_rate_table.md R102 to R104) and the host's contract (45_host_protocol.md R214) -/

namespace Sys2Proof.Machine

open Sys2Proof

/-! #### The sum of a table -/

/-- The slots are the differences of one monotone sequence, so they sum to its last value (R103). -/
theorem sum_rateSlot (T : Nat) : ∑ i : Fin 32, rateSlot T i.val = T := by
  have hmono : Monotone fun i => ceilDiv (i * T) 32 := fun i j hij =>
    Nat.div_le_div_right (Nat.sub_le_sub_right (Nat.add_le_add_right (Nat.mul_le_mul_right T hij) 32) 1)
  calc ∑ i : Fin 32, rateSlot T i.val = ∑ i ∈ Finset.range 32, rateSlot T i := Fin.sum_univ_eq_sum_range (rateSlot T) 32
    _ = ceilDiv (32 * T) 32 - ceilDiv (0 * T) 32 := Finset.sum_range_tsub hmono 32
    _ = T := by unfold ceilDiv; omega

/-- Slot 0 is the ideal period rounded up (R104). -/
theorem rateSlot_zero (T : Nat) (h : 0 < T % 32) : rateSlot T 0 = T / 32 + 1 := by
  unfold rateSlot ceilDiv
  omega

/-- Where each of `n` numbers is `q` or `q + 1`, their sum counts those that are `q + 1`. -/
theorem sum_eq_mul_add_card {n : Nat} (f : Fin n → Nat) (q : Nat) (hf : ∀ i, f i = q ∨ f i = q + 1) :
    ∑ i, f i = n * q + (Finset.univ.filter fun i => f i = q + 1).card := by
  have hsplit : ∀ i, f i = q + if f i = q + 1 then 1 else 0 := fun i => by
    obtain h | h := hf i <;> rw [h] <;> simp
  calc ∑ i, f i = ∑ i, (q + if f i = q + 1 then 1 else 0) := Finset.sum_congr rfl fun i _ => hsplit i
    _ = n * q + (Finset.univ.filter fun i => f i = q + 1).card := by
      rw [Finset.sum_add_distrib, Finset.sum_const, Finset.card_univ, Fintype.card_fin, smul_eq_mul, Finset.card_filter]

/-- Settles O58. -/
theorem rateTableProperties : Obligations.RateTableProperties := by
  intro b _ P T
  refine ⟨fun i => rateTable_bounds T i.val i.isLt, fun hlow hhigh => ?_⟩
  have hslot : ∀ i : Fin 32, P[i.val].toNat = rateSlot T i.val := fun i =>
    (rateTable_getElem_toNat T i.val i.isLt).trans
      ((if_neg (Nat.not_lt.mpr hhigh)).trans (if_neg (Nat.not_lt.mpr hlow)))
  simp only [hslot]
  have hcount := sum_eq_mul_add_card (fun i : Fin 32 => rateSlot T i.val) (T / 32) fun i => rateSlot_eq T i.val
  rw [sum_rateSlot] at hcount
  exact ⟨sum_rateSlot T, fun i => rateSlot_eq T i.val, by omega, fun hpos => (hslot 0).trans (rateSlot_zero T hpos)⟩

/-! #### The clamps -/

theorem lt_rateTotal_iff {b : Nat} (hb : 0 < b) : 32 * 65535 < rateTotal b ↔ b ≤ 122 := by
  rw [rateTotal, Nat.lt_iff_add_one_le, Nat.le_div_iff_mul_le (by omega)]
  omega

theorem rateTotal_lt_iff {b : Nat} (hb : 0 < b) : rateTotal b < 32 * 128 ↔ 62508 ≤ b := by
  rw [rateTotal, Nat.div_lt_iff_lt_mul (by omega)]
  omega

/-- Settles O59: each bound on the total is one on the divisor, and the two do not overlap. -/
theorem rateTableClamps : Obligations.RateTableClamps := by
  intro b hb
  have hpos : 0 < b.toNat := Nat.pos_of_ne_zero (mt (BitVec.eq_of_toNat_eq (y := 0)) hb)
  have hhigh := lt_rateTotal_iff hpos
  have hlow := rateTotal_lt_iff hpos
  refine ⟨hhigh.symm, hlow.symm, fun h => ?_, fun h => ?_⟩
  · exact if_pos (hhigh.mpr h)
  · exact (if_neg (mt hhigh.mp (by omega))).trans (if_pos (hlow.mpr h))

/-! #### Scripts over the port (R200) -/

theorem State.transact_encode {s t : State} {i : Instr} (hwf : i.wellFormed = true) (h : exec i s = .next t) :
    s.transact (encode i) = t := by
  rw [State.transact, State.deliverWord, decodeOfEncode i hwf]
  simp only [h]

theorem State.ticks_cons (s : State) (ax : Axis) (axes : List Axis) :
    s.ticks (ax :: axes) = (s.setAxis ax (s.axis ax).tick).silent.ticks axes := by
  rw [← State.transact_encode (i := .tick ax) rfl (exec_tick s ax)]
  rfl

/-- TICKs of whatever axes leave an axis alone whose timer is off (R130). -/
theorem State.ticks_axis_of_timerOff {ax : Axis} (axes : List Axis) :
    ∀ {s : State}, (s.axis ax).timerOn = false → (s.ticks axes).axis ax = s.axis ax := by
  induction axes with
  | nil => exact fun _ => rfl
  | cons first rest ih =>
    intro s hoff
    have hkeep : (s.setAxis first (s.axis first).tick).silent.axis ax = s.axis ax := by
      rw [State.silent_axis]
      obtain rfl | rfl := Axis.eq_or_eq_other ax first
      · rw [State.axis_setAxis, AxisState.tick_of_timerOff _ hoff]
      · rw [State.other_setAxis]
    rw [State.ticks_cons, ih (by rwa [hkeep]), hkeep]

theorem Script.run_issue_of_ok {α : Type} {s t : State} {w : TWord} {onError : Code → α} {k : BitVec 32 → Script α}
    {schedule : List (List Axis)} {d : BitVec 32} (ht : (s.ticks (schedule.headD [])).transact w = t)
    (hresp : t.response = some ⟨.ok, d⟩) :
    (Machine.issue w onError k).run schedule s = (k d).run schedule.tail t := by
  simp only [Machine.issue, Script.run, ht, hresp, if_true]

theorem exec_estop_stops (s : State) (ax : Axis) :
    ∃ t, exec (.estop ax) s = .next t ∧ t.response = some ⟨.ok, 0⟩ ∧
      (t.axis ax).stopped = true ∧ (t.axis ax).timerOn = false := by
  obtain ⟨t, hexec, hwrote⟩ := exists_wrote_of_ok (s := s) (i := .estop ax) rfl rfl rfl
  have haxis : t.axis ax = _ := hwrote.axis
  exact ⟨t, hexec, hwrote.response, by rw [haxis]; rfl, by rw [haxis]; rfl⟩

theorem exec_disable_disables (s : State) (ax : Axis) :
    ∃ t, exec (.disable ax) s = .next t ∧ t.response = some ⟨.ok, 0⟩ ∧
      (t.axis ax).stopped = (s.axis ax).stopped ∧ (t.axis ax).timerOn = (s.axis ax).timerOn ∧
      (t.axis ax).enablePin = true ∧ (t.axis ax).enabled = false := by
  obtain ⟨t, hexec, hwrote⟩ := exists_wrote_of_ok (s := s) (i := .disable ax) rfl rfl rfl
  have haxis : t.axis ax = _ := hwrote.axis
  refine ⟨t, hexec, hwrote.response, ?_⟩
  rw [haxis]
  exact ⟨rfl, rfl, rfl, rfl⟩

/-- Settles O60: ESTOP and DISABLE are accepted under no condition, and TICKs between them find the timer off. -/
theorem emergencyStopCommand : Obligations.EmergencyStopCommand := by
  intro s ax h schedule
  refine ⟨fun hprog => ?_, fun hprog => ?_⟩
  · obtain ⟨t, hestop, hok, hstopped, htimer⟩ := exec_estop_stops (s.ticks (schedule.headD [])) ax
    obtain ⟨u, hdisable, hok', hu⟩ := exec_disable_disables (t.ticks (schedule.tail.headD [])) ax
    rw [State.ticks_axis_of_timerOff _ htimer, hstopped, htimer] at hu
    refine ⟨u, ?_, hu⟩
    rw [SyntaCmd.expand, hprog, Bool.false_and, if_neg Bool.false_ne_true, SyntaCmd.body, HostState.issue,
      Script.run_issue_of_ok (State.transact_encode rfl hestop) hok, HostState.issue,
      Script.run_issue_of_ok (State.transact_encode rfl hdisable) hok', Script.run]
  · rw [SyntaCmd.expand, hprog]
    rfl

end Sys2Proof.Machine
